-- ==== Sys2Proof/Word.lean ====
section
/-! DEFINITION. The two widths of the machine (00_scope.md R6): a byte is 8 bits, a word is 16 bits. Everything
that takes a word apart or puts one together stands in Machine/Bits.lean. -/

namespace Sys2Proof

/-- An 8-bit value: a register, a memory cell, an immediate (R6). -/
abbrev Byte := BitVec 8

/-- A 16-bit value: PC, SP, a register pair, an address (R6). -/
abbrev Word := BitVec 16

end Sys2Proof
end

