-- ==== Sys2Proof/Machine/Bits.lean ====
section
/-! DEFINITION. Bit fields, byte order and sign extension (00_scope.md R6, R7), used by the decoder and by the machine. -/

namespace Sys2Proof

/-- `v[7:0]` of a word (R6). -/
def lowByte (w : Word) : Byte := w.extractLsb' 0 8

/-- `v[15:8]` of a word (R6). -/
def highByte (w : Word) : Byte := w.extractLsb' 8 8

/-- The word `hi << 8 | lo` (10_state.md R21, 20_memory.md R63). -/
def wordOf (hi lo : Byte) : Word := hi ++ lo

/-- `sext(e)` reduced modulo 65536 (R7, 30_encoding.md R97): `e` below 128, `e - 256` from 128 on. -/
def sext (e : Byte) : Word := e.signExtend 16

/-- Bit `i` of a byte as a Bool (R6). -/
def bitOf (v : Byte) (i : Nat) : Bool := v.getLsbD i

/-- A flag used as a number, 0 or 1, in bit 0 of a byte (10_state.md R24). -/
def bitByte (b : Bool) : Byte := if b then 0x01#8 else 0x00#8

end Sys2Proof
end

