-- ==== Sys2Proof/WellFormed.lean ====
section
/-! DEFINITION. Which terms of `Instr` are instructions, and which rows of the table have an entry. Operands are bytes
and words, so every operand value is admissible; one term is refused. -/

namespace Sys2Proof

/-- `PREFIX CB` is a row of the table but no instruction by itself (47_system.md R275): the bytes 0xCB and `op2` are
the instruction of the extended page that `op2` selects. Every other term is an instruction. -/
def Instr.wellFormed : Instr → Bool
  | .prefixCb _ => false
  | _ => true

/-- The opcode byte of a row without a table entry (30_encoding.md R102): fetching it is Fatal. -/
def Instr.noEntryByte : Instr → Option Byte
  | .stop => some 0x10#8
  | .daa => some 0x27#8
  | .halt => some 0x76#8
  | .unassignedD3 => some 0xD3#8
  | .unassignedDB => some 0xDB#8
  | .unassignedDD => some 0xDD#8
  | .unassignedE3 => some 0xE3#8
  | .unassignedE4 => some 0xE4#8
  | .unassignedEB => some 0xEB#8
  | .unassignedEC => some 0xEC#8
  | .unassignedED => some 0xED#8
  | .unassignedF4 => some 0xF4#8
  | .unassignedFC => some 0xFC#8
  | .unassignedFD => some 0xFD#8
  | _ => none

end Sys2Proof
end

