-- ==== Sys2Proof/Decode.lean ====
section
/-! DEFINITION. Decoding and encoding. The decoder follows the bit patterns of 30_encoding.md (R91 to R101): a byte is
split into the fields x, y and z, and a family's form picks the row's constructor. The encoder after it is written from
the opcode map by byte (R100, R101), so that the two are two readings of the spec. -/

namespace Sys2Proof

/-! ### The rows of one family, by their fields -/

/-- `01dddsss`: `LD r[ddd],r[sss]`; 01110110 is HALT (R100). -/
def ldForm : Opnd8 → Opnd8 → Instr
  | .reg .b, .reg .b => .ldBB
  | .reg .b, .reg .c => .ldBC
  | .reg .b, .reg .d => .ldBD
  | .reg .b, .reg .e => .ldBE
  | .reg .b, .reg .h => .ldBH
  | .reg .b, .reg .l => .ldBL
  | .reg .b, .indHl => .ldBIndHl
  | .reg .b, .reg .a => .ldBA
  | .reg .c, .reg .b => .ldCB
  | .reg .c, .reg .c => .ldCC
  | .reg .c, .reg .d => .ldCD
  | .reg .c, .reg .e => .ldCE
  | .reg .c, .reg .h => .ldCH
  | .reg .c, .reg .l => .ldCL
  | .reg .c, .indHl => .ldCIndHl
  | .reg .c, .reg .a => .ldCA
  | .reg .d, .reg .b => .ldDB
  | .reg .d, .reg .c => .ldDC
  | .reg .d, .reg .d => .ldDD
  | .reg .d, .reg .e => .ldDE
  | .reg .d, .reg .h => .ldDH
  | .reg .d, .reg .l => .ldDL
  | .reg .d, .indHl => .ldDIndHl
  | .reg .d, .reg .a => .ldDA
  | .reg .e, .reg .b => .ldEB
  | .reg .e, .reg .c => .ldEC
  | .reg .e, .reg .d => .ldED
  | .reg .e, .reg .e => .ldEE
  | .reg .e, .reg .h => .ldEH
  | .reg .e, .reg .l => .ldEL
  | .reg .e, .indHl => .ldEIndHl
  | .reg .e, .reg .a => .ldEA
  | .reg .h, .reg .b => .ldHB
  | .reg .h, .reg .c => .ldHC
  | .reg .h, .reg .d => .ldHD
  | .reg .h, .reg .e => .ldHE
  | .reg .h, .reg .h => .ldHH
  | .reg .h, .reg .l => .ldHL
  | .reg .h, .indHl => .ldHIndHl
  | .reg .h, .reg .a => .ldHA
  | .reg .l, .reg .b => .ldLB
  | .reg .l, .reg .c => .ldLC
  | .reg .l, .reg .d => .ldLD
  | .reg .l, .reg .e => .ldLE
  | .reg .l, .reg .h => .ldLH
  | .reg .l, .reg .l => .ldLL
  | .reg .l, .indHl => .ldLIndHl
  | .reg .l, .reg .a => .ldLA
  | .indHl, .reg .b => .ldIndHlB
  | .indHl, .reg .c => .ldIndHlC
  | .indHl, .reg .d => .ldIndHlD
  | .indHl, .reg .e => .ldIndHlE
  | .indHl, .reg .h => .ldIndHlH
  | .indHl, .reg .l => .ldIndHlL
  | .indHl, .indHl => .halt
  | .indHl, .reg .a => .ldIndHlA
  | .reg .a, .reg .b => .ldAB
  | .reg .a, .reg .c => .ldAC
  | .reg .a, .reg .d => .ldAD
  | .reg .a, .reg .e => .ldAE
  | .reg .a, .reg .h => .ldAH
  | .reg .a, .reg .l => .ldAL
  | .reg .a, .indHl => .ldAIndHl
  | .reg .a, .reg .a => .ldAA

/-- `10aaasss`: `alu[aaa] A,r[sss]` (R95, R100). -/
def aluForm : AluOp → Opnd8 → Instr
  | .add, .reg .b => .addB
  | .add, .reg .c => .addC
  | .add, .reg .d => .addD
  | .add, .reg .e => .addE
  | .add, .reg .h => .addH
  | .add, .reg .l => .addL
  | .add, .indHl => .addIndHl
  | .add, .reg .a => .addA
  | .adc, .reg .b => .adcB
  | .adc, .reg .c => .adcC
  | .adc, .reg .d => .adcD
  | .adc, .reg .e => .adcE
  | .adc, .reg .h => .adcH
  | .adc, .reg .l => .adcL
  | .adc, .indHl => .adcIndHl
  | .adc, .reg .a => .adcA
  | .sub, .reg .b => .subB
  | .sub, .reg .c => .subC
  | .sub, .reg .d => .subD
  | .sub, .reg .e => .subE
  | .sub, .reg .h => .subH
  | .sub, .reg .l => .subL
  | .sub, .indHl => .subIndHl
  | .sub, .reg .a => .subA
  | .sbc, .reg .b => .sbcB
  | .sbc, .reg .c => .sbcC
  | .sbc, .reg .d => .sbcD
  | .sbc, .reg .e => .sbcE
  | .sbc, .reg .h => .sbcH
  | .sbc, .reg .l => .sbcL
  | .sbc, .indHl => .sbcIndHl
  | .sbc, .reg .a => .sbcA
  | .and, .reg .b => .andB
  | .and, .reg .c => .andC
  | .and, .reg .d => .andD
  | .and, .reg .e => .andE
  | .and, .reg .h => .andH
  | .and, .reg .l => .andL
  | .and, .indHl => .andIndHl
  | .and, .reg .a => .andA
  | .xor, .reg .b => .xorB
  | .xor, .reg .c => .xorC
  | .xor, .reg .d => .xorD
  | .xor, .reg .e => .xorE
  | .xor, .reg .h => .xorH
  | .xor, .reg .l => .xorL
  | .xor, .indHl => .xorIndHl
  | .xor, .reg .a => .xorA
  | .or, .reg .b => .orB
  | .or, .reg .c => .orC
  | .or, .reg .d => .orD
  | .or, .reg .e => .orE
  | .or, .reg .h => .orH
  | .or, .reg .l => .orL
  | .or, .indHl => .orIndHl
  | .or, .reg .a => .orA
  | .cp, .reg .b => .cpB
  | .cp, .reg .c => .cpC
  | .cp, .reg .d => .cpD
  | .cp, .reg .e => .cpE
  | .cp, .reg .h => .cpH
  | .cp, .reg .l => .cpL
  | .cp, .indHl => .cpIndHl
  | .cp, .reg .a => .cpA

/-- `11aaa110`: `alu[aaa] A,d8` (R95, R100). -/
def aluImmForm : AluOp → Byte → Instr
  | .add, v => .addD8 v
  | .adc, v => .adcD8 v
  | .sub, v => .subD8 v
  | .sbc, v => .sbcD8 v
  | .and, v => .andD8 v
  | .xor, v => .xorD8 v
  | .or, v => .orD8 v
  | .cp, v => .cpD8 v

/-- `00rrr100`: `INC r` (R100). -/
def incForm : Opnd8 → Instr
  | .reg .b => .incB
  | .reg .c => .incC
  | .reg .d => .incD
  | .reg .e => .incE
  | .reg .h => .incH
  | .reg .l => .incL
  | .indHl => .incIndHl
  | .reg .a => .incA

/-- `00rrr101`: `DEC r` (R100). -/
def decForm : Opnd8 → Instr
  | .reg .b => .decB
  | .reg .c => .decC
  | .reg .d => .decD
  | .reg .e => .decE
  | .reg .h => .decH
  | .reg .l => .decL
  | .indHl => .decIndHl
  | .reg .a => .decA

/-- `00rrr110`: `LD r,d8` (R100). -/
def ldImmForm : Opnd8 → Byte → Instr
  | .reg .b, v => .ldBD8 v
  | .reg .c, v => .ldCD8 v
  | .reg .d, v => .ldDD8 v
  | .reg .e, v => .ldED8 v
  | .reg .h, v => .ldHD8 v
  | .reg .l, v => .ldLD8 v
  | .indHl, v => .ldIndHlD8 v
  | .reg .a, v => .ldAD8 v

/-- `00pp0001`: `LD rp[p],d16` (R100). -/
def ldPairForm : Pair → Word → Instr
  | .bc, v => .ldBcD16 v
  | .de, v => .ldDeD16 v
  | .hl, v => .ldHlD16 v
  | .sp, v => .ldSpD16 v

/-- `00pp1001`: `ADD HL,rp[p]` (R100). -/
def addHlForm : Pair → Instr
  | .bc => .addHlBc
  | .de => .addHlDe
  | .hl => .addHlHl
  | .sp => .addHlSp

/-- `00pp0011`: `INC rp[p]` (R100). -/
def incPairForm : Pair → Instr
  | .bc => .incBc
  | .de => .incDe
  | .hl => .incHl
  | .sp => .incSp

/-- `00pp1011`: `DEC rp[p]` (R100). -/
def decPairForm : Pair → Instr
  | .bc => .decBc
  | .de => .decDe
  | .hl => .decHl
  | .sp => .decSp

/-- `11pp0001`: `POP rp2[p]` (R100). -/
def popForm : StackPair → Instr
  | .bc => .popBc
  | .de => .popDe
  | .hl => .popHl
  | .af => .popAf

/-- `11pp0101`: `PUSH rp2[p]` (R100). -/
def pushForm : StackPair → Instr
  | .bc => .pushBc
  | .de => .pushDe
  | .hl => .pushHl
  | .af => .pushAf

/-- `001cc000`: `JR cc,e8` (R100). -/
def jrForm : Cond → Byte → Instr
  | .nz, e => .jrNzE8 e
  | .z, e => .jrZE8 e
  | .nc, e => .jrNcE8 e
  | .c, e => .jrCE8 e

/-- `110cc000`: `RET cc` (R100). -/
def retForm : Cond → Instr
  | .nz => .retNz
  | .z => .retZ
  | .nc => .retNc
  | .c => .retC

/-- `110cc010`: `JP cc,a16` (R100). -/
def jpForm : Cond → Word → Instr
  | .nz, t => .jpNzA16 t
  | .z, t => .jpZA16 t
  | .nc, t => .jpNcA16 t
  | .c, t => .jpCA16 t

/-- `110cc100`: `CALL cc,a16` (R100). -/
def callForm : Cond → Word → Instr
  | .nz, t => .callNzA16 t
  | .z, t => .callZA16 t
  | .nc, t => .callNcA16 t
  | .c, t => .callCA16 t

/-- `11ttt111`: `RST ttt*8` (R98). -/
def rstForm : BitNo → Instr
  | .n0 => .rst00
  | .n1 => .rst08
  | .n2 => .rst10
  | .n3 => .rst18
  | .n4 => .rst20
  | .n5 => .rst28
  | .n6 => .rst30
  | .n7 => .rst38

/-- `00000111`, `00001111`, `00010111`, `00011111`: RLCA, RRCA, RLA, RRA (R100). -/
def accRotForm : AccRot → Instr
  | .rlca => .rlca
  | .rrca => .rrca
  | .rla => .rla
  | .rra => .rra

/-- Extended `00ooorrr`: the rotates and shifts (R96, R101). -/
def rotForm : RotOp → Opnd8 → Instr
  | .rlc, .reg .b => .rlcB
  | .rlc, .reg .c => .rlcC
  | .rlc, .reg .d => .rlcD
  | .rlc, .reg .e => .rlcE
  | .rlc, .reg .h => .rlcH
  | .rlc, .reg .l => .rlcL
  | .rlc, .indHl => .rlcIndHl
  | .rlc, .reg .a => .rlcA
  | .rrc, .reg .b => .rrcB
  | .rrc, .reg .c => .rrcC
  | .rrc, .reg .d => .rrcD
  | .rrc, .reg .e => .rrcE
  | .rrc, .reg .h => .rrcH
  | .rrc, .reg .l => .rrcL
  | .rrc, .indHl => .rrcIndHl
  | .rrc, .reg .a => .rrcA
  | .rl, .reg .b => .rlB
  | .rl, .reg .c => .rlC
  | .rl, .reg .d => .rlD
  | .rl, .reg .e => .rlE
  | .rl, .reg .h => .rlH
  | .rl, .reg .l => .rlL
  | .rl, .indHl => .rlIndHl
  | .rl, .reg .a => .rlA
  | .rr, .reg .b => .rrB
  | .rr, .reg .c => .rrC
  | .rr, .reg .d => .rrD
  | .rr, .reg .e => .rrE
  | .rr, .reg .h => .rrH
  | .rr, .reg .l => .rrL
  | .rr, .indHl => .rrIndHl
  | .rr, .reg .a => .rrA
  | .sla, .reg .b => .slaB
  | .sla, .reg .c => .slaC
  | .sla, .reg .d => .slaD
  | .sla, .reg .e => .slaE
  | .sla, .reg .h => .slaH
  | .sla, .reg .l => .slaL
  | .sla, .indHl => .slaIndHl
  | .sla, .reg .a => .slaA
  | .sra, .reg .b => .sraB
  | .sra, .reg .c => .sraC
  | .sra, .reg .d => .sraD
  | .sra, .reg .e => .sraE
  | .sra, .reg .h => .sraH
  | .sra, .reg .l => .sraL
  | .sra, .indHl => .sraIndHl
  | .sra, .reg .a => .sraA
  | .swap, .reg .b => .swapB
  | .swap, .reg .c => .swapC
  | .swap, .reg .d => .swapD
  | .swap, .reg .e => .swapE
  | .swap, .reg .h => .swapH
  | .swap, .reg .l => .swapL
  | .swap, .indHl => .swapIndHl
  | .swap, .reg .a => .swapA
  | .srl, .reg .b => .srlB
  | .srl, .reg .c => .srlC
  | .srl, .reg .d => .srlD
  | .srl, .reg .e => .srlE
  | .srl, .reg .h => .srlH
  | .srl, .reg .l => .srlL
  | .srl, .indHl => .srlIndHl
  | .srl, .reg .a => .srlA

/-- Extended `01bbbrrr`: `BIT b,r` (R96, R101). -/
def bitForm : BitNo → Opnd8 → Instr
  | .n0, .reg .b => .bit0B
  | .n0, .reg .c => .bit0C
  | .n0, .reg .d => .bit0D
  | .n0, .reg .e => .bit0E
  | .n0, .reg .h => .bit0H
  | .n0, .reg .l => .bit0L
  | .n0, .indHl => .bit0IndHl
  | .n0, .reg .a => .bit0A
  | .n1, .reg .b => .bit1B
  | .n1, .reg .c => .bit1C
  | .n1, .reg .d => .bit1D
  | .n1, .reg .e => .bit1E
  | .n1, .reg .h => .bit1H
  | .n1, .reg .l => .bit1L
  | .n1, .indHl => .bit1IndHl
  | .n1, .reg .a => .bit1A
  | .n2, .reg .b => .bit2B
  | .n2, .reg .c => .bit2C
  | .n2, .reg .d => .bit2D
  | .n2, .reg .e => .bit2E
  | .n2, .reg .h => .bit2H
  | .n2, .reg .l => .bit2L
  | .n2, .indHl => .bit2IndHl
  | .n2, .reg .a => .bit2A
  | .n3, .reg .b => .bit3B
  | .n3, .reg .c => .bit3C
  | .n3, .reg .d => .bit3D
  | .n3, .reg .e => .bit3E
  | .n3, .reg .h => .bit3H
  | .n3, .reg .l => .bit3L
  | .n3, .indHl => .bit3IndHl
  | .n3, .reg .a => .bit3A
  | .n4, .reg .b => .bit4B
  | .n4, .reg .c => .bit4C
  | .n4, .reg .d => .bit4D
  | .n4, .reg .e => .bit4E
  | .n4, .reg .h => .bit4H
  | .n4, .reg .l => .bit4L
  | .n4, .indHl => .bit4IndHl
  | .n4, .reg .a => .bit4A
  | .n5, .reg .b => .bit5B
  | .n5, .reg .c => .bit5C
  | .n5, .reg .d => .bit5D
  | .n5, .reg .e => .bit5E
  | .n5, .reg .h => .bit5H
  | .n5, .reg .l => .bit5L
  | .n5, .indHl => .bit5IndHl
  | .n5, .reg .a => .bit5A
  | .n6, .reg .b => .bit6B
  | .n6, .reg .c => .bit6C
  | .n6, .reg .d => .bit6D
  | .n6, .reg .e => .bit6E
  | .n6, .reg .h => .bit6H
  | .n6, .reg .l => .bit6L
  | .n6, .indHl => .bit6IndHl
  | .n6, .reg .a => .bit6A
  | .n7, .reg .b => .bit7B
  | .n7, .reg .c => .bit7C
  | .n7, .reg .d => .bit7D
  | .n7, .reg .e => .bit7E
  | .n7, .reg .h => .bit7H
  | .n7, .reg .l => .bit7L
  | .n7, .indHl => .bit7IndHl
  | .n7, .reg .a => .bit7A

/-- Extended `10bbbrrr`: `RES b,r` (R96, R101). -/
def resForm : BitNo → Opnd8 → Instr
  | .n0, .reg .b => .res0B
  | .n0, .reg .c => .res0C
  | .n0, .reg .d => .res0D
  | .n0, .reg .e => .res0E
  | .n0, .reg .h => .res0H
  | .n0, .reg .l => .res0L
  | .n0, .indHl => .res0IndHl
  | .n0, .reg .a => .res0A
  | .n1, .reg .b => .res1B
  | .n1, .reg .c => .res1C
  | .n1, .reg .d => .res1D
  | .n1, .reg .e => .res1E
  | .n1, .reg .h => .res1H
  | .n1, .reg .l => .res1L
  | .n1, .indHl => .res1IndHl
  | .n1, .reg .a => .res1A
  | .n2, .reg .b => .res2B
  | .n2, .reg .c => .res2C
  | .n2, .reg .d => .res2D
  | .n2, .reg .e => .res2E
  | .n2, .reg .h => .res2H
  | .n2, .reg .l => .res2L
  | .n2, .indHl => .res2IndHl
  | .n2, .reg .a => .res2A
  | .n3, .reg .b => .res3B
  | .n3, .reg .c => .res3C
  | .n3, .reg .d => .res3D
  | .n3, .reg .e => .res3E
  | .n3, .reg .h => .res3H
  | .n3, .reg .l => .res3L
  | .n3, .indHl => .res3IndHl
  | .n3, .reg .a => .res3A
  | .n4, .reg .b => .res4B
  | .n4, .reg .c => .res4C
  | .n4, .reg .d => .res4D
  | .n4, .reg .e => .res4E
  | .n4, .reg .h => .res4H
  | .n4, .reg .l => .res4L
  | .n4, .indHl => .res4IndHl
  | .n4, .reg .a => .res4A
  | .n5, .reg .b => .res5B
  | .n5, .reg .c => .res5C
  | .n5, .reg .d => .res5D
  | .n5, .reg .e => .res5E
  | .n5, .reg .h => .res5H
  | .n5, .reg .l => .res5L
  | .n5, .indHl => .res5IndHl
  | .n5, .reg .a => .res5A
  | .n6, .reg .b => .res6B
  | .n6, .reg .c => .res6C
  | .n6, .reg .d => .res6D
  | .n6, .reg .e => .res6E
  | .n6, .reg .h => .res6H
  | .n6, .reg .l => .res6L
  | .n6, .indHl => .res6IndHl
  | .n6, .reg .a => .res6A
  | .n7, .reg .b => .res7B
  | .n7, .reg .c => .res7C
  | .n7, .reg .d => .res7D
  | .n7, .reg .e => .res7E
  | .n7, .reg .h => .res7H
  | .n7, .reg .l => .res7L
  | .n7, .indHl => .res7IndHl
  | .n7, .reg .a => .res7A

/-- Extended `11bbbrrr`: `SET b,r` (R96, R101). -/
def setForm : BitNo → Opnd8 → Instr
  | .n0, .reg .b => .set0B
  | .n0, .reg .c => .set0C
  | .n0, .reg .d => .set0D
  | .n0, .reg .e => .set0E
  | .n0, .reg .h => .set0H
  | .n0, .reg .l => .set0L
  | .n0, .indHl => .set0IndHl
  | .n0, .reg .a => .set0A
  | .n1, .reg .b => .set1B
  | .n1, .reg .c => .set1C
  | .n1, .reg .d => .set1D
  | .n1, .reg .e => .set1E
  | .n1, .reg .h => .set1H
  | .n1, .reg .l => .set1L
  | .n1, .indHl => .set1IndHl
  | .n1, .reg .a => .set1A
  | .n2, .reg .b => .set2B
  | .n2, .reg .c => .set2C
  | .n2, .reg .d => .set2D
  | .n2, .reg .e => .set2E
  | .n2, .reg .h => .set2H
  | .n2, .reg .l => .set2L
  | .n2, .indHl => .set2IndHl
  | .n2, .reg .a => .set2A
  | .n3, .reg .b => .set3B
  | .n3, .reg .c => .set3C
  | .n3, .reg .d => .set3D
  | .n3, .reg .e => .set3E
  | .n3, .reg .h => .set3H
  | .n3, .reg .l => .set3L
  | .n3, .indHl => .set3IndHl
  | .n3, .reg .a => .set3A
  | .n4, .reg .b => .set4B
  | .n4, .reg .c => .set4C
  | .n4, .reg .d => .set4D
  | .n4, .reg .e => .set4E
  | .n4, .reg .h => .set4H
  | .n4, .reg .l => .set4L
  | .n4, .indHl => .set4IndHl
  | .n4, .reg .a => .set4A
  | .n5, .reg .b => .set5B
  | .n5, .reg .c => .set5C
  | .n5, .reg .d => .set5D
  | .n5, .reg .e => .set5E
  | .n5, .reg .h => .set5H
  | .n5, .reg .l => .set5L
  | .n5, .indHl => .set5IndHl
  | .n5, .reg .a => .set5A
  | .n6, .reg .b => .set6B
  | .n6, .reg .c => .set6C
  | .n6, .reg .d => .set6D
  | .n6, .reg .e => .set6E
  | .n6, .reg .h => .set6H
  | .n6, .reg .l => .set6L
  | .n6, .indHl => .set6IndHl
  | .n6, .reg .a => .set6A
  | .n7, .reg .b => .set7B
  | .n7, .reg .c => .set7C
  | .n7, .reg .d => .set7D
  | .n7, .reg .e => .set7E
  | .n7, .reg .h => .set7H
  | .n7, .reg .l => .set7L
  | .n7, .indHl => .set7IndHl
  | .n7, .reg .a => .set7A

/-! ### Fields -/

/-- The 8-bit operand field (R92). -/
def opndField : Nat → Opnd8
  | 0 => .reg .b
  | 1 => .reg .c
  | 2 => .reg .d
  | 3 => .reg .e
  | 4 => .reg .h
  | 5 => .reg .l
  | 6 => .indHl
  | _ => .reg .a

/-- The pair field, table `rp` (R93). -/
def pairField : Nat → Pair
  | 0 => .bc
  | 1 => .de
  | 2 => .hl
  | _ => .sp

/-- The pair field, table `rp2` (R93). -/
def stackPairField : Nat → StackPair
  | 0 => .bc
  | 1 => .de
  | 2 => .hl
  | _ => .af

/-- The condition field (R94). -/
def condField : Nat → Cond
  | 0 => .nz
  | 1 => .z
  | 2 => .nc
  | _ => .c

/-- The ALU operation field (R95). -/
def aluField : Nat → AluOp
  | 0 => .add
  | 1 => .adc
  | 2 => .sub
  | 3 => .sbc
  | 4 => .and
  | 5 => .xor
  | 6 => .or
  | _ => .cp

/-- The operation field of the extended page's group 0 (R96). -/
def rotField : Nat → RotOp
  | 0 => .rlc
  | 1 => .rrc
  | 2 => .rl
  | 3 => .rr
  | 4 => .sla
  | 5 => .sra
  | 6 => .swap
  | _ => .srl

/-- A 3-bit number field (R96, R98). -/
def bitField : Nat → BitNo
  | 0 => .n0
  | 1 => .n1
  | 2 => .n2
  | 3 => .n3
  | 4 => .n4
  | 5 => .n5
  | 6 => .n6
  | _ => .n7

/-- Bits 7:6 of an opcode byte: `x` of the primary page, `g` of the extended page (R91, R96). -/
def fieldX (o : Byte) : Nat := o.toNat / 64

/-- Bits 5:3 (R91, R96). -/
def fieldY (o : Byte) : Nat := o.toNat / 8 % 8

/-- Bits 2:0 (R91, R96). -/
def fieldZ (o : Byte) : Nat := o.toNat % 8

/-! ### The two tables -/

/-- What the opcode byte alone decides (R90): the instruction, or what its operand bytes will complete. -/
inductive Entry where
  /-- Format OP: nothing follows. -/
  | whole (i : Instr)
  /-- Formats OP_D8, OP_A8 and OP_E8: one byte follows. -/
  | byte (f : Byte → Instr)
  /-- Formats OP_D16 and OP_A16: two bytes follow, the low one first. -/
  | word (f : Word → Instr)
  /-- Format CB_OP: the extended opcode follows. -/
  | ext

/-- Quadrant x = 0 of the primary table (R100). -/
def quadrant0 (y z : Nat) : Entry :=
  match z with
  | 0 =>
    match y with
    | 0 => .whole .nop
    | 1 => .word .ldIndA16Sp
    | 2 => .whole .stop
    | 3 => .byte .jrE8
    | _ => .byte (jrForm (condField (y - 4)))
  | 1 => if y % 2 = 0 then .word (ldPairForm (pairField (y / 2))) else .whole (addHlForm (pairField (y / 2)))
  | 2 =>
    match y with
    | 0 => .whole .ldIndBcA
    | 1 => .whole .ldAIndBc
    | 2 => .whole .ldIndDeA
    | 3 => .whole .ldAIndDe
    | 4 => .whole .ldIndHlIncA
    | 5 => .whole .ldAIndHlInc
    | 6 => .whole .ldIndHlDecA
    | _ => .whole .ldAIndHlDec
  | 3 => if y % 2 = 0 then .whole (incPairForm (pairField (y / 2))) else .whole (decPairForm (pairField (y / 2)))
  | 4 => .whole (incForm (opndField y))
  | 5 => .whole (decForm (opndField y))
  | 6 => .byte (ldImmForm (opndField y))
  | _ =>
    match y with
    | 0 => .whole .rlca
    | 1 => .whole .rrca
    | 2 => .whole .rla
    | 3 => .whole .rra
    | 4 => .whole .daa
    | 5 => .whole .cpl
    | 6 => .whole .scf
    | _ => .whole .ccf

/-- Quadrant x = 3 of the primary table (R100); the bytes without an entry are rows of their own (R102). -/
def quadrant3 (y z : Nat) : Entry :=
  match z with
  | 0 =>
    match y with
    | 4 => .byte .ldhA8A
    | 5 => .byte .addSpE8
    | 6 => .byte .ldhAA8
    | 7 => .byte .ldHlSpE8
    | _ => .whole (retForm (condField y))
  | 1 =>
    match y with
    | 1 => .whole .ret
    | 3 => .whole .reti
    | 5 => .whole .jpHl
    | 7 => .whole .ldSpHl
    | _ => .whole (popForm (stackPairField (y / 2)))
  | 2 =>
    match y with
    | 4 => .whole .ldIndCA
    | 5 => .word .ldIndA16A
    | 6 => .whole .ldAIndC
    | 7 => .word .ldAIndA16
    | _ => .word (jpForm (condField y))
  | 3 =>
    match y with
    | 0 => .word .jpA16
    | 1 => .ext
    | 2 => .whole .unassignedD3
    | 3 => .whole .unassignedDB
    | 4 => .whole .unassignedE3
    | 5 => .whole .unassignedEB
    | 6 => .whole .di
    | _ => .whole .ei
  | 4 =>
    match y with
    | 4 => .whole .unassignedE4
    | 5 => .whole .unassignedEC
    | 6 => .whole .unassignedF4
    | 7 => .whole .unassignedFC
    | _ => .word (callForm (condField y))
  | 5 =>
    match y with
    | 1 => .word .callA16
    | 3 => .whole .unassignedDD
    | 5 => .whole .unassignedED
    | 7 => .whole .unassignedFD
    | _ => .whole (pushForm (stackPairField (y / 2)))
  | 6 => .byte (aluImmForm (aluField y))
  | _ => .whole (rstForm (bitField y))

/-- The primary table (R100). -/
def primary (o : Byte) : Entry :=
  match fieldX o with
  | 0 => quadrant0 (fieldY o) (fieldZ o)
  | 1 => .whole (ldForm (opndField (fieldY o)) (opndField (fieldZ o)))
  | 2 => .whole (aluForm (aluField (fieldY o)) (opndField (fieldZ o)))
  | _ => quadrant3 (fieldY o) (fieldZ o)

/-- The extended table: every byte has an entry (R101). -/
def extended (o : Byte) : Instr :=
  match fieldX o with
  | 0 => rotForm (rotField (fieldY o)) (opndField (fieldZ o))
  | 1 => bitForm (bitField (fieldY o)) (opndField (fieldZ o))
  | 2 => resForm (bitField (fieldY o)) (opndField (fieldZ o))
  | _ => setForm (bitField (fieldY o)) (opndField (fieldZ o))

/-! ### Decoding -/

/-- Why a list of bytes is no instruction: it is too short. A byte without a table entry is a row of its own, whose
meaning is Fatal (R102). -/
inductive DecodeError where
  | noOpcode
  | missingOperand (opcode : Byte)
deriving DecidableEq, Repr

/-- The instruction that a list of bytes starts with, and the bytes after it (R90, R97, R99). -/
def decode : List Byte → Except DecodeError (Instr × List Byte)
  | [] => .error .noOpcode
  | o :: bs =>
    match primary o with
    | .whole i => .ok (i, bs)
    | .byte f =>
      match bs with
      | v :: rest => .ok (f v, rest)
      | [] => .error (.missingOperand o)
    | .word f =>
      match bs with
      | lo :: hi :: rest => .ok (f (wordOf hi lo), rest)
      | _ => .error (.missingOperand o)
    | .ext =>
      match bs with
      | v :: rest => .ok (extended v, rest)
      | [] => .error (.missingOperand o)

/-- The bytes of a word, low byte first (R97). -/
def wordBytes (v : Word) : List Byte := [lowByte v, highByte v]

/-- The bytes of an instruction, lowest address first, from the opcode map by byte (R91, R100, R101). -/
def encode : Instr → List Byte
  | .nop => [0x00#8]
  | .ldBcD16 d16 => 0x01#8 :: wordBytes d16
  | .ldIndBcA => [0x02#8]
  | .incBc => [0x03#8]
  | .incB => [0x04#8]
  | .decB => [0x05#8]
  | .ldBD8 d8 => [0x06#8, d8]
  | .rlca => [0x07#8]
  | .ldIndA16Sp a16 => 0x08#8 :: wordBytes a16
  | .addHlBc => [0x09#8]
  | .ldAIndBc => [0x0A#8]
  | .decBc => [0x0B#8]
  | .incC => [0x0C#8]
  | .decC => [0x0D#8]
  | .ldCD8 d8 => [0x0E#8, d8]
  | .rrca => [0x0F#8]
  | .stop => [0x10#8]
  | .ldDeD16 d16 => 0x11#8 :: wordBytes d16
  | .ldIndDeA => [0x12#8]
  | .incDe => [0x13#8]
  | .incD => [0x14#8]
  | .decD => [0x15#8]
  | .ldDD8 d8 => [0x16#8, d8]
  | .rla => [0x17#8]
  | .jrE8 e8 => [0x18#8, e8]
  | .addHlDe => [0x19#8]
  | .ldAIndDe => [0x1A#8]
  | .decDe => [0x1B#8]
  | .incE => [0x1C#8]
  | .decE => [0x1D#8]
  | .ldED8 d8 => [0x1E#8, d8]
  | .rra => [0x1F#8]
  | .jrNzE8 e8 => [0x20#8, e8]
  | .ldHlD16 d16 => 0x21#8 :: wordBytes d16
  | .ldIndHlIncA => [0x22#8]
  | .incHl => [0x23#8]
  | .incH => [0x24#8]
  | .decH => [0x25#8]
  | .ldHD8 d8 => [0x26#8, d8]
  | .daa => [0x27#8]
  | .jrZE8 e8 => [0x28#8, e8]
  | .addHlHl => [0x29#8]
  | .ldAIndHlInc => [0x2A#8]
  | .decHl => [0x2B#8]
  | .incL => [0x2C#8]
  | .decL => [0x2D#8]
  | .ldLD8 d8 => [0x2E#8, d8]
  | .cpl => [0x2F#8]
  | .jrNcE8 e8 => [0x30#8, e8]
  | .ldSpD16 d16 => 0x31#8 :: wordBytes d16
  | .ldIndHlDecA => [0x32#8]
  | .incSp => [0x33#8]
  | .incIndHl => [0x34#8]
  | .decIndHl => [0x35#8]
  | .ldIndHlD8 d8 => [0x36#8, d8]
  | .scf => [0x37#8]
  | .jrCE8 e8 => [0x38#8, e8]
  | .addHlSp => [0x39#8]
  | .ldAIndHlDec => [0x3A#8]
  | .decSp => [0x3B#8]
  | .incA => [0x3C#8]
  | .decA => [0x3D#8]
  | .ldAD8 d8 => [0x3E#8, d8]
  | .ccf => [0x3F#8]
  | .ldBB => [0x40#8]
  | .ldBC => [0x41#8]
  | .ldBD => [0x42#8]
  | .ldBE => [0x43#8]
  | .ldBH => [0x44#8]
  | .ldBL => [0x45#8]
  | .ldBIndHl => [0x46#8]
  | .ldBA => [0x47#8]
  | .ldCB => [0x48#8]
  | .ldCC => [0x49#8]
  | .ldCD => [0x4A#8]
  | .ldCE => [0x4B#8]
  | .ldCH => [0x4C#8]
  | .ldCL => [0x4D#8]
  | .ldCIndHl => [0x4E#8]
  | .ldCA => [0x4F#8]
  | .ldDB => [0x50#8]
  | .ldDC => [0x51#8]
  | .ldDD => [0x52#8]
  | .ldDE => [0x53#8]
  | .ldDH => [0x54#8]
  | .ldDL => [0x55#8]
  | .ldDIndHl => [0x56#8]
  | .ldDA => [0x57#8]
  | .ldEB => [0x58#8]
  | .ldEC => [0x59#8]
  | .ldED => [0x5A#8]
  | .ldEE => [0x5B#8]
  | .ldEH => [0x5C#8]
  | .ldEL => [0x5D#8]
  | .ldEIndHl => [0x5E#8]
  | .ldEA => [0x5F#8]
  | .ldHB => [0x60#8]
  | .ldHC => [0x61#8]
  | .ldHD => [0x62#8]
  | .ldHE => [0x63#8]
  | .ldHH => [0x64#8]
  | .ldHL => [0x65#8]
  | .ldHIndHl => [0x66#8]
  | .ldHA => [0x67#8]
  | .ldLB => [0x68#8]
  | .ldLC => [0x69#8]
  | .ldLD => [0x6A#8]
  | .ldLE => [0x6B#8]
  | .ldLH => [0x6C#8]
  | .ldLL => [0x6D#8]
  | .ldLIndHl => [0x6E#8]
  | .ldLA => [0x6F#8]
  | .ldIndHlB => [0x70#8]
  | .ldIndHlC => [0x71#8]
  | .ldIndHlD => [0x72#8]
  | .ldIndHlE => [0x73#8]
  | .ldIndHlH => [0x74#8]
  | .ldIndHlL => [0x75#8]
  | .halt => [0x76#8]
  | .ldIndHlA => [0x77#8]
  | .ldAB => [0x78#8]
  | .ldAC => [0x79#8]
  | .ldAD => [0x7A#8]
  | .ldAE => [0x7B#8]
  | .ldAH => [0x7C#8]
  | .ldAL => [0x7D#8]
  | .ldAIndHl => [0x7E#8]
  | .ldAA => [0x7F#8]
  | .addB => [0x80#8]
  | .addC => [0x81#8]
  | .addD => [0x82#8]
  | .addE => [0x83#8]
  | .addH => [0x84#8]
  | .addL => [0x85#8]
  | .addIndHl => [0x86#8]
  | .addA => [0x87#8]
  | .adcB => [0x88#8]
  | .adcC => [0x89#8]
  | .adcD => [0x8A#8]
  | .adcE => [0x8B#8]
  | .adcH => [0x8C#8]
  | .adcL => [0x8D#8]
  | .adcIndHl => [0x8E#8]
  | .adcA => [0x8F#8]
  | .subB => [0x90#8]
  | .subC => [0x91#8]
  | .subD => [0x92#8]
  | .subE => [0x93#8]
  | .subH => [0x94#8]
  | .subL => [0x95#8]
  | .subIndHl => [0x96#8]
  | .subA => [0x97#8]
  | .sbcB => [0x98#8]
  | .sbcC => [0x99#8]
  | .sbcD => [0x9A#8]
  | .sbcE => [0x9B#8]
  | .sbcH => [0x9C#8]
  | .sbcL => [0x9D#8]
  | .sbcIndHl => [0x9E#8]
  | .sbcA => [0x9F#8]
  | .andB => [0xA0#8]
  | .andC => [0xA1#8]
  | .andD => [0xA2#8]
  | .andE => [0xA3#8]
  | .andH => [0xA4#8]
  | .andL => [0xA5#8]
  | .andIndHl => [0xA6#8]
  | .andA => [0xA7#8]
  | .xorB => [0xA8#8]
  | .xorC => [0xA9#8]
  | .xorD => [0xAA#8]
  | .xorE => [0xAB#8]
  | .xorH => [0xAC#8]
  | .xorL => [0xAD#8]
  | .xorIndHl => [0xAE#8]
  | .xorA => [0xAF#8]
  | .orB => [0xB0#8]
  | .orC => [0xB1#8]
  | .orD => [0xB2#8]
  | .orE => [0xB3#8]
  | .orH => [0xB4#8]
  | .orL => [0xB5#8]
  | .orIndHl => [0xB6#8]
  | .orA => [0xB7#8]
  | .cpB => [0xB8#8]
  | .cpC => [0xB9#8]
  | .cpD => [0xBA#8]
  | .cpE => [0xBB#8]
  | .cpH => [0xBC#8]
  | .cpL => [0xBD#8]
  | .cpIndHl => [0xBE#8]
  | .cpA => [0xBF#8]
  | .retNz => [0xC0#8]
  | .popBc => [0xC1#8]
  | .jpNzA16 a16 => 0xC2#8 :: wordBytes a16
  | .jpA16 a16 => 0xC3#8 :: wordBytes a16
  | .callNzA16 a16 => 0xC4#8 :: wordBytes a16
  | .pushBc => [0xC5#8]
  | .addD8 d8 => [0xC6#8, d8]
  | .rst00 => [0xC7#8]
  | .retZ => [0xC8#8]
  | .ret => [0xC9#8]
  | .jpZA16 a16 => 0xCA#8 :: wordBytes a16
  | .prefixCb op2 => [0xCB#8, op2]
  | .callZA16 a16 => 0xCC#8 :: wordBytes a16
  | .callA16 a16 => 0xCD#8 :: wordBytes a16
  | .adcD8 d8 => [0xCE#8, d8]
  | .rst08 => [0xCF#8]
  | .retNc => [0xD0#8]
  | .popDe => [0xD1#8]
  | .jpNcA16 a16 => 0xD2#8 :: wordBytes a16
  | .unassignedD3 => [0xD3#8]
  | .callNcA16 a16 => 0xD4#8 :: wordBytes a16
  | .pushDe => [0xD5#8]
  | .subD8 d8 => [0xD6#8, d8]
  | .rst10 => [0xD7#8]
  | .retC => [0xD8#8]
  | .reti => [0xD9#8]
  | .jpCA16 a16 => 0xDA#8 :: wordBytes a16
  | .unassignedDB => [0xDB#8]
  | .callCA16 a16 => 0xDC#8 :: wordBytes a16
  | .unassignedDD => [0xDD#8]
  | .sbcD8 d8 => [0xDE#8, d8]
  | .rst18 => [0xDF#8]
  | .ldhA8A a8 => [0xE0#8, a8]
  | .popHl => [0xE1#8]
  | .ldIndCA => [0xE2#8]
  | .unassignedE3 => [0xE3#8]
  | .unassignedE4 => [0xE4#8]
  | .pushHl => [0xE5#8]
  | .andD8 d8 => [0xE6#8, d8]
  | .rst20 => [0xE7#8]
  | .addSpE8 e8 => [0xE8#8, e8]
  | .jpHl => [0xE9#8]
  | .ldIndA16A a16 => 0xEA#8 :: wordBytes a16
  | .unassignedEB => [0xEB#8]
  | .unassignedEC => [0xEC#8]
  | .unassignedED => [0xED#8]
  | .xorD8 d8 => [0xEE#8, d8]
  | .rst28 => [0xEF#8]
  | .ldhAA8 a8 => [0xF0#8, a8]
  | .popAf => [0xF1#8]
  | .ldAIndC => [0xF2#8]
  | .di => [0xF3#8]
  | .unassignedF4 => [0xF4#8]
  | .pushAf => [0xF5#8]
  | .orD8 d8 => [0xF6#8, d8]
  | .rst30 => [0xF7#8]
  | .ldHlSpE8 e8 => [0xF8#8, e8]
  | .ldSpHl => [0xF9#8]
  | .ldAIndA16 a16 => 0xFA#8 :: wordBytes a16
  | .ei => [0xFB#8]
  | .unassignedFC => [0xFC#8]
  | .unassignedFD => [0xFD#8]
  | .cpD8 d8 => [0xFE#8, d8]
  | .rst38 => [0xFF#8]
  | .rlcB => [0xCB#8, 0x00#8]
  | .rlcC => [0xCB#8, 0x01#8]
  | .rlcD => [0xCB#8, 0x02#8]
  | .rlcE => [0xCB#8, 0x03#8]
  | .rlcH => [0xCB#8, 0x04#8]
  | .rlcL => [0xCB#8, 0x05#8]
  | .rlcIndHl => [0xCB#8, 0x06#8]
  | .rlcA => [0xCB#8, 0x07#8]
  | .rrcB => [0xCB#8, 0x08#8]
  | .rrcC => [0xCB#8, 0x09#8]
  | .rrcD => [0xCB#8, 0x0A#8]
  | .rrcE => [0xCB#8, 0x0B#8]
  | .rrcH => [0xCB#8, 0x0C#8]
  | .rrcL => [0xCB#8, 0x0D#8]
  | .rrcIndHl => [0xCB#8, 0x0E#8]
  | .rrcA => [0xCB#8, 0x0F#8]
  | .rlB => [0xCB#8, 0x10#8]
  | .rlC => [0xCB#8, 0x11#8]
  | .rlD => [0xCB#8, 0x12#8]
  | .rlE => [0xCB#8, 0x13#8]
  | .rlH => [0xCB#8, 0x14#8]
  | .rlL => [0xCB#8, 0x15#8]
  | .rlIndHl => [0xCB#8, 0x16#8]
  | .rlA => [0xCB#8, 0x17#8]
  | .rrB => [0xCB#8, 0x18#8]
  | .rrC => [0xCB#8, 0x19#8]
  | .rrD => [0xCB#8, 0x1A#8]
  | .rrE => [0xCB#8, 0x1B#8]
  | .rrH => [0xCB#8, 0x1C#8]
  | .rrL => [0xCB#8, 0x1D#8]
  | .rrIndHl => [0xCB#8, 0x1E#8]
  | .rrA => [0xCB#8, 0x1F#8]
  | .slaB => [0xCB#8, 0x20#8]
  | .slaC => [0xCB#8, 0x21#8]
  | .slaD => [0xCB#8, 0x22#8]
  | .slaE => [0xCB#8, 0x23#8]
  | .slaH => [0xCB#8, 0x24#8]
  | .slaL => [0xCB#8, 0x25#8]
  | .slaIndHl => [0xCB#8, 0x26#8]
  | .slaA => [0xCB#8, 0x27#8]
  | .sraB => [0xCB#8, 0x28#8]
  | .sraC => [0xCB#8, 0x29#8]
  | .sraD => [0xCB#8, 0x2A#8]
  | .sraE => [0xCB#8, 0x2B#8]
  | .sraH => [0xCB#8, 0x2C#8]
  | .sraL => [0xCB#8, 0x2D#8]
  | .sraIndHl => [0xCB#8, 0x2E#8]
  | .sraA => [0xCB#8, 0x2F#8]
  | .swapB => [0xCB#8, 0x30#8]
  | .swapC => [0xCB#8, 0x31#8]
  | .swapD => [0xCB#8, 0x32#8]
  | .swapE => [0xCB#8, 0x33#8]
  | .swapH => [0xCB#8, 0x34#8]
  | .swapL => [0xCB#8, 0x35#8]
  | .swapIndHl => [0xCB#8, 0x36#8]
  | .swapA => [0xCB#8, 0x37#8]
  | .srlB => [0xCB#8, 0x38#8]
  | .srlC => [0xCB#8, 0x39#8]
  | .srlD => [0xCB#8, 0x3A#8]
  | .srlE => [0xCB#8, 0x3B#8]
  | .srlH => [0xCB#8, 0x3C#8]
  | .srlL => [0xCB#8, 0x3D#8]
  | .srlIndHl => [0xCB#8, 0x3E#8]
  | .srlA => [0xCB#8, 0x3F#8]
  | .bit0B => [0xCB#8, 0x40#8]
  | .bit0C => [0xCB#8, 0x41#8]
  | .bit0D => [0xCB#8, 0x42#8]
  | .bit0E => [0xCB#8, 0x43#8]
  | .bit0H => [0xCB#8, 0x44#8]
  | .bit0L => [0xCB#8, 0x45#8]
  | .bit0IndHl => [0xCB#8, 0x46#8]
  | .bit0A => [0xCB#8, 0x47#8]
  | .bit1B => [0xCB#8, 0x48#8]
  | .bit1C => [0xCB#8, 0x49#8]
  | .bit1D => [0xCB#8, 0x4A#8]
  | .bit1E => [0xCB#8, 0x4B#8]
  | .bit1H => [0xCB#8, 0x4C#8]
  | .bit1L => [0xCB#8, 0x4D#8]
  | .bit1IndHl => [0xCB#8, 0x4E#8]
  | .bit1A => [0xCB#8, 0x4F#8]
  | .bit2B => [0xCB#8, 0x50#8]
  | .bit2C => [0xCB#8, 0x51#8]
  | .bit2D => [0xCB#8, 0x52#8]
  | .bit2E => [0xCB#8, 0x53#8]
  | .bit2H => [0xCB#8, 0x54#8]
  | .bit2L => [0xCB#8, 0x55#8]
  | .bit2IndHl => [0xCB#8, 0x56#8]
  | .bit2A => [0xCB#8, 0x57#8]
  | .bit3B => [0xCB#8, 0x58#8]
  | .bit3C => [0xCB#8, 0x59#8]
  | .bit3D => [0xCB#8, 0x5A#8]
  | .bit3E => [0xCB#8, 0x5B#8]
  | .bit3H => [0xCB#8, 0x5C#8]
  | .bit3L => [0xCB#8, 0x5D#8]
  | .bit3IndHl => [0xCB#8, 0x5E#8]
  | .bit3A => [0xCB#8, 0x5F#8]
  | .bit4B => [0xCB#8, 0x60#8]
  | .bit4C => [0xCB#8, 0x61#8]
  | .bit4D => [0xCB#8, 0x62#8]
  | .bit4E => [0xCB#8, 0x63#8]
  | .bit4H => [0xCB#8, 0x64#8]
  | .bit4L => [0xCB#8, 0x65#8]
  | .bit4IndHl => [0xCB#8, 0x66#8]
  | .bit4A => [0xCB#8, 0x67#8]
  | .bit5B => [0xCB#8, 0x68#8]
  | .bit5C => [0xCB#8, 0x69#8]
  | .bit5D => [0xCB#8, 0x6A#8]
  | .bit5E => [0xCB#8, 0x6B#8]
  | .bit5H => [0xCB#8, 0x6C#8]
  | .bit5L => [0xCB#8, 0x6D#8]
  | .bit5IndHl => [0xCB#8, 0x6E#8]
  | .bit5A => [0xCB#8, 0x6F#8]
  | .bit6B => [0xCB#8, 0x70#8]
  | .bit6C => [0xCB#8, 0x71#8]
  | .bit6D => [0xCB#8, 0x72#8]
  | .bit6E => [0xCB#8, 0x73#8]
  | .bit6H => [0xCB#8, 0x74#8]
  | .bit6L => [0xCB#8, 0x75#8]
  | .bit6IndHl => [0xCB#8, 0x76#8]
  | .bit6A => [0xCB#8, 0x77#8]
  | .bit7B => [0xCB#8, 0x78#8]
  | .bit7C => [0xCB#8, 0x79#8]
  | .bit7D => [0xCB#8, 0x7A#8]
  | .bit7E => [0xCB#8, 0x7B#8]
  | .bit7H => [0xCB#8, 0x7C#8]
  | .bit7L => [0xCB#8, 0x7D#8]
  | .bit7IndHl => [0xCB#8, 0x7E#8]
  | .bit7A => [0xCB#8, 0x7F#8]
  | .res0B => [0xCB#8, 0x80#8]
  | .res0C => [0xCB#8, 0x81#8]
  | .res0D => [0xCB#8, 0x82#8]
  | .res0E => [0xCB#8, 0x83#8]
  | .res0H => [0xCB#8, 0x84#8]
  | .res0L => [0xCB#8, 0x85#8]
  | .res0IndHl => [0xCB#8, 0x86#8]
  | .res0A => [0xCB#8, 0x87#8]
  | .res1B => [0xCB#8, 0x88#8]
  | .res1C => [0xCB#8, 0x89#8]
  | .res1D => [0xCB#8, 0x8A#8]
  | .res1E => [0xCB#8, 0x8B#8]
  | .res1H => [0xCB#8, 0x8C#8]
  | .res1L => [0xCB#8, 0x8D#8]
  | .res1IndHl => [0xCB#8, 0x8E#8]
  | .res1A => [0xCB#8, 0x8F#8]
  | .res2B => [0xCB#8, 0x90#8]
  | .res2C => [0xCB#8, 0x91#8]
  | .res2D => [0xCB#8, 0x92#8]
  | .res2E => [0xCB#8, 0x93#8]
  | .res2H => [0xCB#8, 0x94#8]
  | .res2L => [0xCB#8, 0x95#8]
  | .res2IndHl => [0xCB#8, 0x96#8]
  | .res2A => [0xCB#8, 0x97#8]
  | .res3B => [0xCB#8, 0x98#8]
  | .res3C => [0xCB#8, 0x99#8]
  | .res3D => [0xCB#8, 0x9A#8]
  | .res3E => [0xCB#8, 0x9B#8]
  | .res3H => [0xCB#8, 0x9C#8]
  | .res3L => [0xCB#8, 0x9D#8]
  | .res3IndHl => [0xCB#8, 0x9E#8]
  | .res3A => [0xCB#8, 0x9F#8]
  | .res4B => [0xCB#8, 0xA0#8]
  | .res4C => [0xCB#8, 0xA1#8]
  | .res4D => [0xCB#8, 0xA2#8]
  | .res4E => [0xCB#8, 0xA3#8]
  | .res4H => [0xCB#8, 0xA4#8]
  | .res4L => [0xCB#8, 0xA5#8]
  | .res4IndHl => [0xCB#8, 0xA6#8]
  | .res4A => [0xCB#8, 0xA7#8]
  | .res5B => [0xCB#8, 0xA8#8]
  | .res5C => [0xCB#8, 0xA9#8]
  | .res5D => [0xCB#8, 0xAA#8]
  | .res5E => [0xCB#8, 0xAB#8]
  | .res5H => [0xCB#8, 0xAC#8]
  | .res5L => [0xCB#8, 0xAD#8]
  | .res5IndHl => [0xCB#8, 0xAE#8]
  | .res5A => [0xCB#8, 0xAF#8]
  | .res6B => [0xCB#8, 0xB0#8]
  | .res6C => [0xCB#8, 0xB1#8]
  | .res6D => [0xCB#8, 0xB2#8]
  | .res6E => [0xCB#8, 0xB3#8]
  | .res6H => [0xCB#8, 0xB4#8]
  | .res6L => [0xCB#8, 0xB5#8]
  | .res6IndHl => [0xCB#8, 0xB6#8]
  | .res6A => [0xCB#8, 0xB7#8]
  | .res7B => [0xCB#8, 0xB8#8]
  | .res7C => [0xCB#8, 0xB9#8]
  | .res7D => [0xCB#8, 0xBA#8]
  | .res7E => [0xCB#8, 0xBB#8]
  | .res7H => [0xCB#8, 0xBC#8]
  | .res7L => [0xCB#8, 0xBD#8]
  | .res7IndHl => [0xCB#8, 0xBE#8]
  | .res7A => [0xCB#8, 0xBF#8]
  | .set0B => [0xCB#8, 0xC0#8]
  | .set0C => [0xCB#8, 0xC1#8]
  | .set0D => [0xCB#8, 0xC2#8]
  | .set0E => [0xCB#8, 0xC3#8]
  | .set0H => [0xCB#8, 0xC4#8]
  | .set0L => [0xCB#8, 0xC5#8]
  | .set0IndHl => [0xCB#8, 0xC6#8]
  | .set0A => [0xCB#8, 0xC7#8]
  | .set1B => [0xCB#8, 0xC8#8]
  | .set1C => [0xCB#8, 0xC9#8]
  | .set1D => [0xCB#8, 0xCA#8]
  | .set1E => [0xCB#8, 0xCB#8]
  | .set1H => [0xCB#8, 0xCC#8]
  | .set1L => [0xCB#8, 0xCD#8]
  | .set1IndHl => [0xCB#8, 0xCE#8]
  | .set1A => [0xCB#8, 0xCF#8]
  | .set2B => [0xCB#8, 0xD0#8]
  | .set2C => [0xCB#8, 0xD1#8]
  | .set2D => [0xCB#8, 0xD2#8]
  | .set2E => [0xCB#8, 0xD3#8]
  | .set2H => [0xCB#8, 0xD4#8]
  | .set2L => [0xCB#8, 0xD5#8]
  | .set2IndHl => [0xCB#8, 0xD6#8]
  | .set2A => [0xCB#8, 0xD7#8]
  | .set3B => [0xCB#8, 0xD8#8]
  | .set3C => [0xCB#8, 0xD9#8]
  | .set3D => [0xCB#8, 0xDA#8]
  | .set3E => [0xCB#8, 0xDB#8]
  | .set3H => [0xCB#8, 0xDC#8]
  | .set3L => [0xCB#8, 0xDD#8]
  | .set3IndHl => [0xCB#8, 0xDE#8]
  | .set3A => [0xCB#8, 0xDF#8]
  | .set4B => [0xCB#8, 0xE0#8]
  | .set4C => [0xCB#8, 0xE1#8]
  | .set4D => [0xCB#8, 0xE2#8]
  | .set4E => [0xCB#8, 0xE3#8]
  | .set4H => [0xCB#8, 0xE4#8]
  | .set4L => [0xCB#8, 0xE5#8]
  | .set4IndHl => [0xCB#8, 0xE6#8]
  | .set4A => [0xCB#8, 0xE7#8]
  | .set5B => [0xCB#8, 0xE8#8]
  | .set5C => [0xCB#8, 0xE9#8]
  | .set5D => [0xCB#8, 0xEA#8]
  | .set5E => [0xCB#8, 0xEB#8]
  | .set5H => [0xCB#8, 0xEC#8]
  | .set5L => [0xCB#8, 0xED#8]
  | .set5IndHl => [0xCB#8, 0xEE#8]
  | .set5A => [0xCB#8, 0xEF#8]
  | .set6B => [0xCB#8, 0xF0#8]
  | .set6C => [0xCB#8, 0xF1#8]
  | .set6D => [0xCB#8, 0xF2#8]
  | .set6E => [0xCB#8, 0xF3#8]
  | .set6H => [0xCB#8, 0xF4#8]
  | .set6L => [0xCB#8, 0xF5#8]
  | .set6IndHl => [0xCB#8, 0xF6#8]
  | .set6A => [0xCB#8, 0xF7#8]
  | .set7B => [0xCB#8, 0xF8#8]
  | .set7C => [0xCB#8, 0xF9#8]
  | .set7D => [0xCB#8, 0xFA#8]
  | .set7E => [0xCB#8, 0xFB#8]
  | .set7H => [0xCB#8, 0xFC#8]
  | .set7L => [0xCB#8, 0xFD#8]
  | .set7IndHl => [0xCB#8, 0xFE#8]
  | .set7A => [0xCB#8, 0xFF#8]

/-- The length of an instruction in bytes (R90). -/
def Instr.length (i : Instr) : Nat := (encode i).length

/-- Three bytes, the longest instruction, of an instruction whose bits are `w`, bit 0 the least significant bit of
the first byte; the bits from `nbits` on are 0. -/
def tableBytes (nbits w : Nat) : List Byte :=
  let v := w % 2 ^ nbits
  [BitVec.ofNat 8 v, BitVec.ofNat 8 (v / 256), BitVec.ofNat 8 (v / 65536)]

/-- The instruction the decoder reads from those bytes. -/
def decodeTableWord (nbits w : Nat) : Option Instr :=
  match decode (tableBytes nbits w) with
  | .ok (i, _) => some i
  | .error _ => none

end Sys2Proof
end

