-- ==== Sys2Proof/Config.lean ====
section
/-! DEFINITION. What the spec leaves OPEN as a parameter of the hardware and gives no value at all. The other open
parameters (reset values, the I/O defaults, the cost table) have a default in the spec: Machine/Params.lean and
Machine/Cost.lean hold those. -/

namespace Sys2Proof

/-- `DISPATCH_CLEARS_IF` (60_exceptions.md R312, decision D16, U12): whether dispatching the VBlank interrupt clears
bit 0 of IF. OPEN in the spec, with no default: a constant without a body, so a proof holds for both values.
DESIGN CHOICE, safe (log entry 1). -/
opaque Config.dispatchClearsIf : Bool

end Sys2Proof
end

