-- ==== Sys2Proof/Machine/Params.lean ====
section
/-! DEFINITION. The constants of the hardware (00_scope.md R5) and the values of its open reset parameters. -/

namespace Sys2Proof.Machine

/-- IF, the interrupt-flag register (10_state.md R33). -/
def ifAddr : Word := 0xFF0F#16

/-- IE, the interrupt-enable register (10_state.md R34). -/
def ieAddr : Word := 0xFFFF#16

/-- LCDC, the LCD control register (10_state.md R35). -/
def lcdcAddr : Word := 0xFF40#16

/-- The LCD enable bit of LCDC (10_state.md R35). -/
def lcdEnableBit : Nat := 7

/-- LY, the current-scanline register (10_state.md R36). -/
def lyAddr : Word := 0xFF44#16

/-- The page addressed by `LDH` and `(C)` (30_encoding.md R97). -/
def highPage : Word := 0xFF00#16

/-- The VBlank interrupt vector (60_exceptions.md R312). -/
def vblankVector : Word := 0x0040#16

/-- The bit of IF and IE that stands for VBlank (60_exceptions.md R321). -/
def vblankBit : Nat := 0

/-- `DOTS_PER_MCYCLE`: display clocks per m-cycle (60_exceptions.md R326). -/
def dotsPerMCycle : Nat := 4

/-- `LINE_PERIOD`: display clocks per scanline (60_exceptions.md R327). -/
def linePeriod : Nat := 456

/-- `LINES_PER_FRAME` (60_exceptions.md R327). -/
def linesPerFrame : Nat := 154

/-- `VBLANK_LINE` (60_exceptions.md R328; 90_conflicts.md C1 settles it to 144). -/
def vblankLine : Byte := 144#8

/-- The address of the cartridge type byte (70_reset_and_hazards.md R351). -/
def cartTypeAddr : Word := 0x0147#16

/-- The largest cartridge image, in bytes (20_memory.md R81). -/
def cartMaxBytes : Nat := 65536

/-- `DISPATCH_CLEARS_IF` (60_exceptions.md R312), the OPEN parameter of Config. -/
def dispatchClearsIf : Bool := Config.dispatchClearsIf

/-- `RESET_PC`, OPEN; the default the spec suggests (10_state.md R41, D10). PRESUMED, unsafe (log entry 2). -/
def resetPc : Word := 0x0100#16

/-- `RESET_SP`, OPEN; the default the spec suggests (10_state.md R42, D11). PRESUMED, unsafe (log entry 2). -/
def resetSp : Word := 0xFFFE#16

/-- `RESET_REGS.A`, OPEN; the default the spec suggests (10_state.md R40, D12). PRESUMED, unsafe (log entry 2). -/
def resetA : Byte := 0x01#8

/-- `RESET_REGS.F`, as `resetA`; its low nibble is 0 as R40 requires. -/
def resetF : Byte := 0xB0#8

/-- `RESET_REGS.B`, as `resetA`. -/
def resetB : Byte := 0x00#8

/-- `RESET_REGS.C`, as `resetA`. -/
def resetC : Byte := 0x13#8

/-- `RESET_REGS.D`, as `resetA`. -/
def resetD : Byte := 0x00#8

/-- `RESET_REGS.E`, as `resetA`. -/
def resetE : Byte := 0xD8#8

/-- `RESET_REGS.H`, as `resetA`. -/
def resetH : Byte := 0x01#8

/-- `RESET_REGS.L`, as `resetA`. -/
def resetL : Byte := 0x4D#8

/-- `IO_DEFAULTS`, OPEN; the table the spec suggests (92_eei_decisions.md D13): LCDC bit 7 is set, IF, LY and IE are
0. An entry whose byte is 0x00 is left out, since memory is zero-filled first (10_state.md R45).
PRESUMED, unsafe (log entry 3). -/
def ioDefaults : List (Nat × Byte) :=
  [(0xFF10, 0x80#8), (0xFF11, 0xBF#8), (0xFF12, 0xF3#8), (0xFF14, 0xBF#8), (0xFF16, 0x3F#8), (0xFF19, 0xBF#8)] ++
  [(0xFF1A, 0x7F#8), (0xFF1B, 0xFF#8), (0xFF1C, 0x9F#8), (0xFF1E, 0xBF#8), (0xFF20, 0xFF#8), (0xFF23, 0xBF#8)] ++
  [(0xFF24, 0x77#8), (0xFF25, 0xF3#8), (0xFF26, 0xF1#8), (0xFF40, 0x91#8), (0xFF47, 0xFC#8), (0xFF48, 0xFF#8)] ++
  [(0xFF49, 0xFF#8)]

/-- The byte an address holds after boot with an empty cartridge (10_state.md R45): `IO_DEFAULTS`, else the zero
fill. -/
def resetByte (a : Nat) : Byte := (ioDefaults.lookup a).getD 0x00#8

end Sys2Proof.Machine
end

