-- ==== Sys2Proof/Machine/Memory.lean ====
section
/-! DEFINITION. Memory `M` (10_state.md R31, 20_memory.md R60): 65536 byte cells, held as the list of the cells that
differ from what they hold after boot with an empty cartridge. -/

namespace Sys2Proof.Machine

/-- The cells that hold something else than `resetByte`, addresses strictly rising. -/
abbrev Memory := List Host.Cell

/-- The byte at an address: its entry, else the reset contents (R61). -/
def Memory.get : Memory → Nat → Byte
  | [], a => resetByte a
  | (k, v) :: m, a => if k = a then v else Memory.get m a

/-- `M[a] <- v` (R62), in canonical form: writing what an unlisted address reads as removes the entry. -/
def Memory.set : Memory → Nat → Byte → Memory
  | [], a, v => if v = resetByte a then [] else [(a, v)]
  | (k, w) :: m, a, v =>
    if a < k then (if v = resetByte a then (k, w) :: m else (a, v) :: (k, w) :: m)
    else if a = k then (if v = resetByte a then m else (a, v) :: m)
    else (k, w) :: Memory.set m a v

/-- Canonical form from address `lo` on: every entry inside the address space, strictly rising, none equal to the
reset contents. -/
def Memory.wfFrom (lo : Nat) : Memory → Bool
  | [] => true
  | (k, v) :: m => decide (lo ≤ k) && decide (k < 65536) && (v != resetByte k) && Memory.wfFrom (k + 1) m

/-- The canonical form: equal memories are equal lists. -/
def Memory.wf (m : Memory) : Bool := Memory.wfFrom 0 m

/-- The bytes placed one after another from address `a` on (70_reset_and_hazards.md R350 step 4). -/
def Memory.load : Memory → Nat → List Byte → Memory
  | m, _, [] => m
  | m, a, v :: vs => Memory.load (Memory.set m a v) (a + 1) vs

end Sys2Proof.Machine
end

