-- ==== Sys2Proof/Machine/State.lean ====
section
/-! DEFINITION. The whole state of the machine (10_state.md, opening tuple), its faults and refusals, and the state
right after reset. -/

namespace Sys2Proof.Machine

/-- The causes of `Fatal(kind, addr, value)` (60_exceptions.md R317): the machine stops for good and reports an address
and a value. Every one is the hardware's own stop, so it is safe. -/
inductive Fault where
  /-- Code 1: a primary opcode byte with no table entry was fetched (R315). Raised by the fourteen rows without an
  entry. Safe. -/
  | unknownPrimaryOpcode (addr : Word) (value : Byte)
  /-- Code 2: an extended opcode byte with no table entry was fetched (R315). The table of R101 has an entry for every
  byte, so no step raises it (R317). Safe. -/
  | unknownExtendedOpcode (addr : Word) (value : Byte)
  /-- Code 3: the interrupt check passed and bit 0 of `IF & IE` is clear (R313). Raised by the tick. Safe. -/
  | unsupportedInterrupt (addr : Word) (value : Byte)
  /-- Code 4: the cartridge type byte is not 0x00 (70_reset_and_hazards.md R351). Latched by boot. Safe. -/
  | unsupportedCartridge (addr : Word) (value : Byte)
deriving DecidableEq, Repr

/-- What the model does not accept. -/
inductive Refusal where
  /-- An instruction of the table that has no meaning yet; no arm of `exec` answers it now. Safe. -/
  | notModelled (mnemonic : String)
  /-- A cartridge image longer than 65536 bytes is no input of boot (93_implementation_defined.md U9). Raised by
  `boot`. Safe. -/
  | cartridgeTooLong (bytes : Nat)
deriving DecidableEq, Repr

/-- The countdown of an armed change: `ticks : {1, 2}` (10_state.md R29). -/
inductive Ticks where
  | one
  | two
deriving DecidableEq, Repr

/-- IMEP, the pending-change slot: `Idle | Armed(target, ticks)` (10_state.md R29). -/
inductive Imep where
  | idle
  | armed (target : Bool) (ticks : Ticks)
deriving DecidableEq, Repr

/-- The state of the machine. `cost` and `frameReady` are the model's own: the values a tick hands on. -/
structure State where
  /-- Accumulator (R20). -/
  a : Byte
  /-- Flag byte: Z = bit 7, N = bit 6, H = bit 5, C = bit 4, bits 3:0 zero (R22, R23). -/
  f : Byte
  /-- Register B (R20). -/
  b : Byte
  /-- Register C (R20). -/
  c : Byte
  /-- Register D (R20). -/
  d : Byte
  /-- Register E (R20). -/
  e : Byte
  /-- Register H (R20). -/
  h : Byte
  /-- Register L (R20). -/
  l : Byte
  /-- Program counter (R26). -/
  pc : Word
  /-- Stack pointer (R27). -/
  sp : Word
  /-- Interrupt master enable (R28). -/
  ime : Bool
  /-- Pending-change slot of IME (R29). -/
  imep : Imep
  /-- ACC, the display clocks accumulated on this scanline (R30). -/
  acc : Nat
  /-- M (R31), the control registers IF, IE, LCDC and LY among its bytes (R32). -/
  mem : Memory
  /-- The fatal latch (R37): once set, no tick is taken. -/
  fatal : Option Fault
  /-- The m-cycles the last CPU step returned to the DTU (00_scope.md R8, `cost <- n`). -/
  cost : Nat
  /-- The `frame_ready` output of the last tick (R38). -/
  frameReady : Bool
deriving DecidableEq, Repr

/-- The answer of an instruction, of a step, of boot. -/
abbrev Result := Host.Outcome State Fault Refusal

/-- The machine right after reset with an empty cartridge image: registers, PC and SP at the values of the open
parameters (R40 to R42), IME false, IMEP Idle, ACC 0 (R43, R44), memory at its reset contents (R45), no FATAL (R46). -/
def State.reset : State where
  a := resetA
  f := resetF
  b := resetB
  c := resetC
  d := resetD
  e := resetE
  h := resetH
  l := resetL
  pc := resetPc
  sp := resetSp
  ime := false
  imep := .idle
  acc := 0
  mem := []
  fatal := none
  cost := 0
  frameReady := false

end Sys2Proof.Machine
end

