-- ==== Sys2Proof/Machine/Flags.lean ====
section
/-! DEFINITION. The flag byte (10_state.md R22 to R24) and every function of the Arithmetic Unit with its flags
(40_alu.md). Sums and comparisons are on unbounded numbers, as the rules write them (00_scope.md R7). -/

namespace Sys2Proof.Machine

/-! ### The flag byte -/

/-- `F.Z`, bit 7 of F (R22). -/
def State.flagZ (s : State) : Bool := bitOf s.f 7

/-- `F.N`, bit 6 of F (R22). -/
def State.flagN (s : State) : Bool := bitOf s.f 6

/-- `F.H`, bit 5 of F (R22). -/
def State.flagH (s : State) : Bool := bitOf s.f 5

/-- `F.C`, bit 4 of F (R22). -/
def State.flagC (s : State) : Bool := bitOf s.f 4

/-- F made of its four flags; bits 3:0 are 0 (R22, R23). -/
def packFlags (z n h c : Bool) : Byte :=
  (if z then 0x80#8 else 0#8) ||| (if n then 0x40#8 else 0#8) ||| (if h then 0x20#8 else 0#8) ||| (if c then 0x10#8 else 0#8)

/-- The flag record `flags{Z, N, H, C}` of an ALU function; `none` is the rules' `-`, leave the flag (R24, R110). -/
structure FlagRec where
  z : Option Bool
  n : Option Bool
  h : Option Bool
  c : Option Bool
deriving DecidableEq, Repr

/-- `ApplyFlags(rec)` (R24). -/
def State.applyFlags (s : State) (r : FlagRec) : State :=
  { s with f := packFlags (r.z.getD s.flagZ) (r.n.getD s.flagN) (r.h.getD s.flagH) (r.c.getD s.flagC) }

/-- `Cond(cc)` (46_control.md R261). -/
def State.cond (s : State) : Cond → Bool
  | .nz => !s.flagZ
  | .z => s.flagZ
  | .nc => !s.flagC
  | .c => s.flagC

/-! ### The functions of the ALU -/

/-- `v & 0xF` as a number. -/
def low4 (v : Byte) : Nat := (v &&& 0x0F#8).toNat

/-- The result and the flag record of an ALU function that returns a byte. -/
abbrev AluOut := Byte × FlagRec

/-- `add8` (R111). -/
def add8 (a b : Byte) : AluOut :=
  let res := BitVec.ofNat 8 (a.toNat + b.toNat)
  (res, { z := some (res == 0#8), n := some false, h := some (decide (low4 a + low4 b > 15)),
          c := some (decide (a.toNat + b.toNat > 255)) })

/-- `adc8` (R112). -/
def adc8 (a b : Byte) (cin : Bool) : AluOut :=
  let res := BitVec.ofNat 8 (a.toNat + b.toNat + cin.toNat)
  (res, { z := some (res == 0#8), n := some false, h := some (decide (low4 a + low4 b + cin.toNat > 15)),
          c := some (decide (a.toNat + b.toNat + cin.toNat > 255)) })

/-- `sub8` (R113): C and H are borrows. -/
def sub8 (a b : Byte) : AluOut :=
  let res := BitVec.ofInt 8 (a.toNat - b.toNat)
  (res, { z := some (res == 0#8), n := some true, h := some (decide (low4 a < low4 b)),
          c := some (decide (a.toNat < b.toNat)) })

/-- `sbc8` (R114). -/
def sbc8 (a b : Byte) (cin : Bool) : AluOut :=
  let res := BitVec.ofInt 8 (a.toNat - b.toNat - cin.toNat)
  (res, { z := some (res == 0#8), n := some true, h := some (decide (low4 a < low4 b + cin.toNat)),
          c := some (decide (a.toNat < b.toNat + cin.toNat)) })

/-- `and8` (R115). -/
def and8 (a b : Byte) : AluOut :=
  let res := a &&& b
  (res, { z := some (res == 0#8), n := some false, h := some true, c := some false })

/-- `or8` (R116). -/
def or8 (a b : Byte) : AluOut :=
  let res := a ||| b
  (res, { z := some (res == 0#8), n := some false, h := some false, c := some false })

/-- `xor8` (R117). -/
def xor8 (a b : Byte) : AluOut :=
  let res := a ^^^ b
  (res, { z := some (res == 0#8), n := some false, h := some false, c := some false })

/-- `cp8` (R118): the flags of `sub8`, no result. -/
def cp8 (a b : Byte) : FlagRec := (sub8 a b).2

/-- The eight accumulator operations (R95, 43_arith8.md); CP keeps A. -/
def aluFn (op : AluOp) (a b : Byte) (cin : Bool) : AluOut :=
  match op with
  | .add => add8 a b
  | .adc => adc8 a b cin
  | .sub => sub8 a b
  | .sbc => sbc8 a b cin
  | .and => and8 a b
  | .xor => xor8 a b
  | .or => or8 a b
  | .cp => (a, cp8 a b)

/-- `inc8` (R119). -/
def inc8 (v : Byte) : AluOut :=
  let res := BitVec.ofNat 8 (v.toNat + 1)
  (res, { z := some (res == 0#8), n := some false, h := some (low4 v == 0xF), c := none })

/-- `dec8` (R120). -/
def dec8 (v : Byte) : AluOut :=
  let res := BitVec.ofInt 8 (v.toNat - 1)
  (res, { z := some (res == 0#8), n := some true, h := some (low4 v == 0), c := none })

/-- `add16` (R121): H is the carry out of bit 11 (decision D2), Z is left. -/
def add16 (hl w : Word) : Word × FlagRec :=
  (BitVec.ofNat 16 (hl.toNat + w.toNat),
    { z := none, n := some false, h := some (decide ((hl &&& 0x0FFF#16).toNat + (w &&& 0x0FFF#16).toNat > 0x0FFF)),
      c := some (decide (hl.toNat + w.toNat > 0xFFFF)) })

/-- `addsp` (R140): the result uses the signed byte, H and C the unsigned one. -/
def addsp (sp : Word) (e : Byte) : Word × FlagRec :=
  (sp + sext e,
    { z := some false, n := some false, h := some (decide ((sp &&& 0xF#16).toNat + low4 e > 0xF)),
      c := some (decide ((sp &&& 0xFF#16).toNat + e.toNat > 0xFF)) })

/-- The flag record of the extended page's rotates and shifts: Z from the result, N and H cleared, C the bit shifted
out (R123, R124, R141). -/
def shiftFlags (res : Byte) (out : Bool) : FlagRec :=
  { z := some (res == 0#8), n := some false, h := some false, c := some out }

/-- `rlc8` (R123). -/
def rlc8 (v : Byte) : AluOut :=
  let res := (v <<< 1) ||| (v >>> 7)
  (res, shiftFlags res (bitOf v 7))

/-- `rrc8` (R129). -/
def rrc8 (v : Byte) : AluOut :=
  let res := (v >>> 1) ||| (bitByte (bitOf v 0) <<< 7)
  (res, shiftFlags res (bitOf v 0))

/-- `rl8` (R130). -/
def rl8 (v : Byte) (cin : Bool) : AluOut :=
  let res := (v <<< 1) ||| bitByte cin
  (res, shiftFlags res (bitOf v 7))

/-- `rr8` (R131). -/
def rr8 (v : Byte) (cin : Bool) : AluOut :=
  let res := (v >>> 1) ||| (bitByte cin <<< 7)
  (res, shiftFlags res (bitOf v 0))

/-- `sla8` (R124). -/
def sla8 (v : Byte) : AluOut :=
  let res := v <<< 1
  (res, shiftFlags res (bitOf v 7))

/-- `sra8` (R132). -/
def sra8 (v : Byte) : AluOut :=
  let res := (v >>> 1) ||| (v &&& 0x80#8)
  (res, shiftFlags res (bitOf v 0))

/-- `swap8` (R122): C is cleared. -/
def swap8 (v : Byte) : AluOut :=
  let res := (v <<< 4) ||| (v >>> 4)
  (res, shiftFlags res false)

/-- `srl8` (R133). -/
def srl8 (v : Byte) : AluOut :=
  let res := v >>> 1
  (res, shiftFlags res (bitOf v 0))

/-- The eight rotates and shifts of the extended page (R96, 48_cb_page.md). -/
def rotFn (op : RotOp) (v : Byte) (cin : Bool) : AluOut :=
  match op with
  | .rlc => rlc8 v
  | .rrc => rrc8 v
  | .rl => rl8 v cin
  | .rr => rr8 v cin
  | .sla => sla8 v
  | .sra => sra8 v
  | .swap => swap8 v
  | .srl => srl8 v

/-- The flag record of the accumulator rotates: Z, N and H cleared whatever the result (R125, R126, R141). -/
def accRotFlags (out : Bool) : FlagRec := { z := some false, n := some false, h := some false, c := some out }

/-- `rlca` (R125). -/
def rlca (a : Byte) : AluOut := ((a <<< 1) ||| (a >>> 7), accRotFlags (bitOf a 7))

/-- `rrca` (R135). -/
def rrca (a : Byte) : AluOut := ((a >>> 1) ||| (bitByte (bitOf a 0) <<< 7), accRotFlags (bitOf a 0))

/-- `rla` (R136). -/
def rla (a : Byte) (cin : Bool) : AluOut := ((a <<< 1) ||| bitByte cin, accRotFlags (bitOf a 7))

/-- `rra` (R126): the old carry enters bit 7 (90_conflicts.md C2). -/
def rra (a : Byte) (cin : Bool) : AluOut := ((a >>> 1) ||| (bitByte cin <<< 7), accRotFlags (bitOf a 0))

/-- `bit(b, v)` (R127). -/
def bit8 (b : BitNo) (v : Byte) : FlagRec :=
  { z := some (!bitOf v b.toNat), n := some false, h := some true, c := none }

/-- `set(b, v)` (R128). -/
def set8 (b : BitNo) (v : Byte) : Byte := v ||| (0x01#8 <<< b.toNat)

/-- `res(b, v)` (R134). -/
def res8 (b : BitNo) (v : Byte) : Byte := v &&& (0xFF#8 ^^^ (0x01#8 <<< b.toNat))

/-- `cpl` (R137). -/
def cpl8 (a : Byte) : AluOut := (a ^^^ 0xFF#8, { z := none, n := some true, h := some true, c := none })

/-- `scf` (R138). -/
def scfFlags : FlagRec := { z := none, n := some false, h := some false, c := some true }

/-- `ccf` (R139). -/
def ccfFlags (cin : Bool) : FlagRec := { z := none, n := some false, h := some false, c := some (!cin) }

end Sys2Proof.Machine
end

