-- ==== Sys2Proof/Machine/Cost.lean ====
section
/-! DEFINITION. The cost table `COST` in m-cycles: one constant for each row of the default table of
70_reset_and_hazards.md R362. COST is configuration in the spec; the default is taken (UNVERIFIED, log entry 4). -/

namespace Sys2Proof.Machine.Cost

/-- `NOP`. -/
def nop : Nat := 1
/-- `LD rr,d16`. -/
def ldPairImm : Nat := 3
/-- `LD (BC),A`, `LD (DE),A`, `LD A,(BC)`, `LD A,(DE)`, `LD (HL+),A`, `LD (HL-),A`, `LD A,(HL+)`, `LD A,(HL-)`. -/
def ldAccInd : Nat := 2
/-- `INC rr`, `DEC rr`. -/
def incDecPair : Nat := 2
/-- `INC r`, `DEC r`. -/
def incDecReg : Nat := 1
/-- `INC (HL)`, `DEC (HL)`. -/
def incDecInd : Nat := 3
/-- `LD r,d8`. -/
def ldRegImm : Nat := 2
/-- `LD (HL),d8`. -/
def ldIndImm : Nat := 3
/-- `RLCA`, `RRCA`, `RLA`, `RRA`. -/
def accRotate : Nat := 1
/-- `LD (a16),SP`. -/
def ldAbsSp : Nat := 5
/-- `ADD HL,rr`. -/
def addHl : Nat := 2
/-- `JR e8`, and `JR cc,e8` taken. -/
def jr : Nat := 3
/-- `JR cc,e8` not taken. -/
def jrNotTaken : Nat := 2
/-- `CPL`, `SCF`, `CCF`. -/
def accFlag : Nat := 1
/-- `LD r,r'`. -/
def ldRegReg : Nat := 1
/-- `LD r,(HL)` and `LD (HL),r`. -/
def ldRegInd : Nat := 2
/-- `ADD ADC SUB SBC AND XOR OR CP A,r`. -/
def aluReg : Nat := 1
/-- `ADD ADC SUB SBC AND XOR OR CP A,(HL)`. -/
def aluInd : Nat := 2
/-- `ADD ADC SUB SBC AND XOR OR CP A,d8`. -/
def aluImm : Nat := 2
/-- `RET cc` taken. -/
def retTaken : Nat := 5
/-- `RET cc` not taken. -/
def retNotTaken : Nat := 2
/-- `RET`, `RETI`. -/
def ret : Nat := 4
/-- `POP rr`. -/
def pop : Nat := 3
/-- `PUSH rr`. -/
def push : Nat := 4
/-- `JP a16`, and `JP cc,a16` taken. -/
def jp : Nat := 4
/-- `JP cc,a16` not taken. -/
def jpNotTaken : Nat := 3
/-- `JP HL`. -/
def jpHl : Nat := 1
/-- `CALL a16`, and `CALL cc,a16` taken. -/
def call : Nat := 6
/-- `CALL cc,a16` not taken. -/
def callNotTaken : Nat := 3
/-- `RST t`. -/
def rst : Nat := 4
/-- `LDH (a8),A`, `LDH A,(a8)`. -/
def ldHigh : Nat := 3
/-- `LD (C),A`, `LD A,(C)`. -/
def ldHighC : Nat := 2
/-- `ADD SP,e8`. -/
def addSp : Nat := 4
/-- `LD HL,SP+e8`. -/
def ldHlSp : Nat := 3
/-- `LD SP,HL`. -/
def ldSpHl : Nat := 2
/-- `LD (a16),A`, `LD A,(a16)`. -/
def ldAccAbs : Nat := 4
/-- `DI`, `EI`. -/
def diEi : Nat := 1
/-- Extended page, register operand, the prefix byte included. -/
def cbReg : Nat := 2
/-- Extended page, `(HL)` operand with a write back, the prefix byte included. -/
def cbInd : Nat := 4
/-- `BIT b,(HL)`, the prefix byte included. -/
def cbBitInd : Nat := 3
/-- Interrupt dispatch (60_exceptions.md R312, from the source). -/
def dispatch : Nat := 5

end Sys2Proof.Machine.Cost
end

