-- ==== Sys2Proof/Machine/Ops.lean ====
section
/-! DEFINITION. The named operations over registers, memory, stack and interrupt state: each is one primitive of
00_scope.md R8 or one sub-step of the tick (60_exceptions.md R310). -/

namespace Sys2Proof.Machine

/-! ### Registers -/

/-- `x[i]` (10_state.md R25). -/
def State.reg (s : State) : Reg → Byte
  | .b => s.b
  | .c => s.c
  | .d => s.d
  | .e => s.e
  | .h => s.h
  | .l => s.l
  | .a => s.a

/-- `x[i] <- v` (10_state.md R25). -/
def State.setReg (s : State) (r : Reg) (v : Byte) : State :=
  match r with
  | .b => { s with b := v }
  | .c => { s with c := v }
  | .d => { s with d := v }
  | .e => { s with e := v }
  | .h => { s with h := v }
  | .l => { s with l := v }
  | .a => { s with a := v }

/-- The pair BC, a view of B and C (10_state.md R21). -/
def State.bc (s : State) : Word := wordOf s.b s.c

/-- The pair DE (R21). -/
def State.de (s : State) : Word := wordOf s.d s.e

/-- The pair HL (R21). -/
def State.hl (s : State) : Word := wordOf s.h s.l

/-- The pair AF (R21). -/
def State.af (s : State) : Word := wordOf s.a s.f

/-- `BC <- v` (R21). -/
def State.setBc (s : State) (v : Word) : State := { s with b := highByte v, c := lowByte v }

/-- `DE <- v` (R21). -/
def State.setDe (s : State) (v : Word) : State := { s with d := highByte v, e := lowByte v }

/-- `HL <- v` (R21). -/
def State.setHl (s : State) (v : Word) : State := { s with h := highByte v, l := lowByte v }

/-- `AF <- v`: bits 3:0 of F stay 0 (R21, R23). -/
def State.setAf (s : State) (v : Word) : State := { s with a := highByte v, f := lowByte v &&& 0xF0#8 }

/-- `rp[p]` (30_encoding.md R93). -/
def State.pair (s : State) : Pair → Word
  | .bc => s.bc
  | .de => s.de
  | .hl => s.hl
  | .sp => s.sp

/-- `rp[p] <- v` (R93). -/
def State.setPair (s : State) (p : Pair) (v : Word) : State :=
  match p with
  | .bc => s.setBc v
  | .de => s.setDe v
  | .hl => s.setHl v
  | .sp => { s with sp := v }

/-- `rp2[p]` (30_encoding.md R93). -/
def State.stackPair (s : State) : StackPair → Word
  | .bc => s.bc
  | .de => s.de
  | .hl => s.hl
  | .af => s.af

/-- `rp2[p] <- v` (R93). -/
def State.setStackPair (s : State) (p : StackPair) (v : Word) : State :=
  match p with
  | .bc => s.setBc v
  | .de => s.setDe v
  | .hl => s.setHl v
  | .af => s.setAf v

/-! ### Memory -/

/-- `MemRead(addr, 1)` (20_memory.md R61). -/
def State.readByte (s : State) (addr : Word) : Byte := s.mem.get addr.toNat

/-- `MemWrite(addr, 1, v)` (R62): every address takes the write. -/
def State.writeByte (s : State) (addr : Word) (v : Byte) : State := { s with mem := s.mem.set addr.toNat v }

/-- `MemRead(addr, 2)`, little-endian, the high byte at `addr + 1` modulo 65536 (R63). -/
def State.readWord (s : State) (addr : Word) : Word := wordOf (s.readByte (addr + 1)) (s.readByte addr)

/-- `MemWrite(addr, 2, v)`, little-endian (R64). -/
def State.writeWord (s : State) (addr v : Word) : State :=
  (s.writeByte addr (lowByte v)).writeByte (addr + 1) (highByte v)

/-- `ReadBit(addr, b)` (R65). -/
def State.readBit (s : State) (addr : Word) (b : Nat) : Bool := bitOf (s.readByte addr) b

/-! ### The stack -/

/-- `Push16(v)` (R67): SP falls by 2, then the word is stored at the new SP. -/
def State.push16 (s : State) (v : Word) : State := ({ s with sp := s.sp - 2 }).writeWord (s.sp - 2) v

/-- The word that `Pop16()` returns (R68). -/
def State.popValue (s : State) : Word := s.readWord s.sp

/-- The state that `Pop16()` leaves: SP rises by 2 (R68). -/
def State.popState (s : State) : State := { s with sp := s.sp + 2 }

/-! ### Fetch -/

/-- The byte that `Fetch8()` returns (30_encoding.md R99). -/
def State.fetchValue8 (s : State) : Byte := s.readByte s.pc

/-- The state that `Fetch8()` leaves: `pc` rises by 1 (R99). -/
def State.fetchState8 (s : State) : State := { s with pc := s.pc + 1 }

/-- The word that `Fetch16()` returns, low byte first (R99). -/
def State.fetchValue16 (s : State) : Word := wordOf s.fetchState8.fetchValue8 s.fetchValue8

/-- The state that `Fetch16()` leaves (R99). -/
def State.fetchState16 (s : State) : State := s.fetchState8.fetchState8

/-! ### The answer of an instruction -/

/-- The instruction completes and returns its cost: `cost <- n` (00_scope.md R8, R9). -/
def done (n : Nat) (s : State) : Result := .next { s with cost := n }

/-- `raise Fatal(kind, addr, value)` (60_exceptions.md R318): the machine stops for good, without a post-state. -/
def raiseFatal (f : Fault) : Result := .fault f

/-- A primary opcode byte without a table entry (60_exceptions.md R315). Its address is the byte before `pc`, since
`pc` has moved past the one byte fetched. -/
def noTableEntry (op : Byte) (s : State) : Result := raiseFatal (.unknownPrimaryOpcode (s.pc - 1) op)

/-! ### Interrupts -/

/-- `m = IF & IE`, all eight bits (60_exceptions.md R311). -/
def State.pendingEnabled (s : State) : Byte := s.readByte ifAddr &&& s.readByte ieAddr

/-- The interrupt check (R311): IME is true and `m` is not 0. -/
def State.checkPasses (s : State) : Bool := s.ime && s.pendingEnabled != 0#8

/-- Dispatch clears bit 0 of IF if the open parameter `clears` says so (R312, D16). -/
def State.acknowledge (s : State) (clears : Bool) : State :=
  if clears then s.writeByte ifAddr (s.readByte ifAddr &&& 0xFE#8) else s

/-- Interrupt dispatch, the machine's trap entry (R312): IME falls, the request may be acknowledged, PC is pushed and
goes to 0x0040, at a cost of 5. IMEP is left as it is. -/
def dispatch (s : State) : State :=
  let s1 := ({ s with ime := false }).acknowledge dispatchClearsIf
  { s1.push16 s1.pc with pc := vblankVector, cost := Cost.dispatch }

/-- `ArmIme(t)` (R316): the new arming replaces the old one; IME is not touched. -/
def State.armIme (s : State) (t : Bool) : State := { s with imep := .armed t .two }

/-- Return from an interrupt handler (R320): PC is popped and IME is armed; nothing else is restored. -/
def State.returnFromInterrupt (s : State) : State := ({ s.popState with pc := s.popValue }).armIme true

/-- `AdvanceImeDelay()` (R314). -/
def State.advanceImeDelay (s : State) : State :=
  match s.imep with
  | .idle => s
  | .armed t .two => { s with imep := .armed t .one }
  | .armed t .one => { s with ime := t, imep := .idle }

end Sys2Proof.Machine
end

