-- ==== Sys2Proof/Machine/Operands.lean ====
section
/-! DEFINITION. Every operand form: the 8-bit operand field with its memory form `(HL)`, and the addressing modes of
the accumulator loads (41_load8.md, table of addressing modes). -/

namespace Sys2Proof.Machine

/-- The value of an 8-bit operand: a register, or the byte at HL (30_encoding.md R92). -/
def State.operand (s : State) : Opnd8 → Byte
  | .reg r => s.reg r
  | .indHl => s.readByte s.hl

/-- The write of an 8-bit operand: a register, or the byte at HL (R92). -/
def State.setOperand (s : State) (o : Opnd8) (v : Byte) : State :=
  match o with
  | .reg r => s.setReg r v
  | .indHl => s.writeByte s.hl v

/-- The addressing modes of `LD A,(…)` and `LD (…),A`. -/
inductive AddrMode where
  /-- `(BC)` -/
  | indBc
  /-- `(DE)` -/
  | indDe
  /-- `(HL+)`: HL rises by 1 after the access. -/
  | indHlInc
  /-- `(HL-)`: HL falls by 1 after the access. -/
  | indHlDec
  /-- `(a16)` -/
  | abs (a16 : Word)
  /-- `(a8)` with `LDH`: the page 0xFF00. -/
  | high (a8 : Byte)
  /-- `(C)`: the page 0xFF00, offset in register C. -/
  | highC
deriving DecidableEq, Repr

/-- The effective address of a mode. -/
def State.effAddr (s : State) : AddrMode → Word
  | .indBc => s.bc
  | .indDe => s.de
  | .indHlInc => s.hl
  | .indHlDec => s.hl
  | .abs w => w
  | .high v => highPage + v.setWidth 16
  | .highC => highPage + s.c.setWidth 16

/-- What a mode does to its base register after the access. -/
def State.afterAccess (s : State) (m : AddrMode) : State :=
  match m with
  | .indBc => s
  | .indDe => s
  | .indHlInc => s.setHl (s.hl + 1)
  | .indHlDec => s.setHl (s.hl - 1)
  | .abs _ => s
  | .high _ => s
  | .highC => s

end Sys2Proof.Machine
end

