-- ==== Sys2Proof/Machine/Arith16.lean ====
section
/-! DEFINITION. 16-bit arithmetic (44_arith16.md). -/

namespace Sys2Proof.Machine

/-! ### Shared operations -/

/-- `HL <- HL + rp[p]` with the flags of `add16` (R235). -/
def addToHl (p : Pair) (s : State) : Result :=
  done Cost.addHl ((s.setHl (add16 s.hl (s.pair p)).1).applyFlags (add16 s.hl (s.pair p)).2)

/-- `rp[p] <- rp[p] + 1`, no flag (R236). -/
def incrementPair (p : Pair) (s : State) : Result := done Cost.incDecPair (s.setPair p (s.pair p + 1))

/-- `rp[p] <- rp[p] - 1`, no flag (R237). -/
def decrementPair (p : Pair) (s : State) : Result := done Cost.incDecPair (s.setPair p (s.pair p - 1))

/-- `SP <- SP + e8` with the flags of `addsp` (R238). -/
def addToSp (e : Byte) (s : State) : Result :=
  done Cost.addSp (({ s with sp := (addsp s.sp e).1 }).applyFlags (addsp s.sp e).2)

/-! ### The rows -/

/-- R236: `INC BC`. -/
def execIncBc (s : State) : Result := incrementPair .bc s

/-- R235: `ADD HL,BC`. -/
def execAddHlBc (s : State) : Result := addToHl .bc s

/-- R237: `DEC BC`. -/
def execDecBc (s : State) : Result := decrementPair .bc s

/-- R236: `INC DE`. -/
def execIncDe (s : State) : Result := incrementPair .de s

/-- R235: `ADD HL,DE`. -/
def execAddHlDe (s : State) : Result := addToHl .de s

/-- R237: `DEC DE`. -/
def execDecDe (s : State) : Result := decrementPair .de s

/-- R236: `INC HL`. -/
def execIncHl (s : State) : Result := incrementPair .hl s

/-- R235: `ADD HL,HL`. -/
def execAddHlHl (s : State) : Result := addToHl .hl s

/-- R237: `DEC HL`. -/
def execDecHl (s : State) : Result := decrementPair .hl s

/-- R236: `INC SP`. -/
def execIncSp (s : State) : Result := incrementPair .sp s

/-- R235: `ADD HL,SP`. -/
def execAddHlSp (s : State) : Result := addToHl .sp s

/-- R237: `DEC SP`. -/
def execDecSp (s : State) : Result := decrementPair .sp s

/-- R238: `ADD SP,e8`. -/
def execAddSpE8 (e8 : Byte) (s : State) : Result := addToSp e8 s

end Sys2Proof.Machine
end

