-- ==== Sys2Proof/Machine/Arith8.lean ====
section
/-! DEFINITION. 8-bit arithmetic and logic (43_arith8.md). -/

namespace Sys2Proof.Machine

/-! ### Shared operations -/

/-- One accumulator operation on a value (R200 to R223); CP keeps A. -/
def State.accumulated (s : State) (op : AluOp) (v : Byte) : State :=
  let r := aluFn op s.a v s.flagC
  ({ s with a := r.1 }).applyFlags r.2

/-- The register and `(HL)` forms (R200, R201 and their like). -/
def accumulate (op : AluOp) (o : Opnd8) (s : State) : Result :=
  match o with
  | .reg _ => done Cost.aluReg (s.accumulated op (s.operand o))
  | .indHl => done Cost.aluInd (s.accumulated op (s.operand o))

/-- The `d8` forms (R202 and its like). -/
def accumulateImm (op : AluOp) (v : Byte) (s : State) : Result := done Cost.aluImm (s.accumulated op v)

/-- An operand replaced by an ALU function of it, with that function's flags. -/
def State.modified (s : State) (o : Opnd8) (r : AluOut) : State := (s.setOperand o r.1).applyFlags r.2

/-- `INC r` and `INC (HL)` (R224, R225). -/
def increment (o : Opnd8) (s : State) : Result :=
  match o with
  | .reg _ => done Cost.incDecReg (s.modified o (inc8 (s.operand o)))
  | .indHl => done Cost.incDecInd (s.modified o (inc8 (s.operand o)))

/-- `DEC r` and `DEC (HL)` (R226, R227). -/
def decrement (o : Opnd8) (s : State) : Result :=
  match o with
  | .reg _ => done Cost.incDecReg (s.modified o (dec8 (s.operand o)))
  | .indHl => done Cost.incDecInd (s.modified o (dec8 (s.operand o)))

/-- `CPL` (R228). -/
def complementAcc (s : State) : Result :=
  done Cost.accFlag (({ s with a := (cpl8 s.a).1 }).applyFlags (cpl8 s.a).2)

/-- `SCF` (R229). -/
def setCarry (s : State) : Result := done Cost.accFlag (s.applyFlags scfFlags)

/-- `CCF` (R230). -/
def complementCarry (s : State) : Result := done Cost.accFlag (s.applyFlags (ccfFlags s.flagC))

/-! ### The rows -/

/-- R224: `INC B`. -/
def execIncB (s : State) : Result := increment (.reg .b) s

/-- R226: `DEC B`. -/
def execDecB (s : State) : Result := decrement (.reg .b) s

/-- R224: `INC C`. -/
def execIncC (s : State) : Result := increment (.reg .c) s

/-- R226: `DEC C`. -/
def execDecC (s : State) : Result := decrement (.reg .c) s

/-- R224: `INC D`. -/
def execIncD (s : State) : Result := increment (.reg .d) s

/-- R226: `DEC D`. -/
def execDecD (s : State) : Result := decrement (.reg .d) s

/-- R224: `INC E`. -/
def execIncE (s : State) : Result := increment (.reg .e) s

/-- R226: `DEC E`. -/
def execDecE (s : State) : Result := decrement (.reg .e) s

/-- R224: `INC H`. -/
def execIncH (s : State) : Result := increment (.reg .h) s

/-- R226: `DEC H`. -/
def execDecH (s : State) : Result := decrement (.reg .h) s

/-- R231: `DAA, no table entry`. -/
def execDaa (s : State) : Result := noTableEntry 0x27#8 s

/-- R224: `INC L`. -/
def execIncL (s : State) : Result := increment (.reg .l) s

/-- R226: `DEC L`. -/
def execDecL (s : State) : Result := decrement (.reg .l) s

/-- R228: `CPL`. -/
def execCpl (s : State) : Result := complementAcc s

/-- R225: `INC (HL)`. -/
def execIncIndHl (s : State) : Result := increment .indHl s

/-- R227: `DEC (HL)`. -/
def execDecIndHl (s : State) : Result := decrement .indHl s

/-- R229: `SCF`. -/
def execScf (s : State) : Result := setCarry s

/-- R224: `INC A`. -/
def execIncA (s : State) : Result := increment (.reg .a) s

/-- R226: `DEC A`. -/
def execDecA (s : State) : Result := decrement (.reg .a) s

/-- R230: `CCF`. -/
def execCcf (s : State) : Result := complementCarry s

/-- R200: `ADD A,B`. -/
def execAddB (s : State) : Result := accumulate .add (.reg .b) s

/-- R200: `ADD A,C`. -/
def execAddC (s : State) : Result := accumulate .add (.reg .c) s

/-- R200: `ADD A,D`. -/
def execAddD (s : State) : Result := accumulate .add (.reg .d) s

/-- R200: `ADD A,E`. -/
def execAddE (s : State) : Result := accumulate .add (.reg .e) s

/-- R200: `ADD A,H`. -/
def execAddH (s : State) : Result := accumulate .add (.reg .h) s

/-- R200: `ADD A,L`. -/
def execAddL (s : State) : Result := accumulate .add (.reg .l) s

/-- R201: `ADD A,(HL)`. -/
def execAddIndHl (s : State) : Result := accumulate .add .indHl s

/-- R200: `ADD A,A`. -/
def execAddA (s : State) : Result := accumulate .add (.reg .a) s

/-- R203: `ADC A,B`. -/
def execAdcB (s : State) : Result := accumulate .adc (.reg .b) s

/-- R203: `ADC A,C`. -/
def execAdcC (s : State) : Result := accumulate .adc (.reg .c) s

/-- R203: `ADC A,D`. -/
def execAdcD (s : State) : Result := accumulate .adc (.reg .d) s

/-- R203: `ADC A,E`. -/
def execAdcE (s : State) : Result := accumulate .adc (.reg .e) s

/-- R203: `ADC A,H`. -/
def execAdcH (s : State) : Result := accumulate .adc (.reg .h) s

/-- R203: `ADC A,L`. -/
def execAdcL (s : State) : Result := accumulate .adc (.reg .l) s

/-- R204: `ADC A,(HL)`. -/
def execAdcIndHl (s : State) : Result := accumulate .adc .indHl s

/-- R203: `ADC A,A`. -/
def execAdcA (s : State) : Result := accumulate .adc (.reg .a) s

/-- R206: `SUB B`. -/
def execSubB (s : State) : Result := accumulate .sub (.reg .b) s

/-- R206: `SUB C`. -/
def execSubC (s : State) : Result := accumulate .sub (.reg .c) s

/-- R206: `SUB D`. -/
def execSubD (s : State) : Result := accumulate .sub (.reg .d) s

/-- R206: `SUB E`. -/
def execSubE (s : State) : Result := accumulate .sub (.reg .e) s

/-- R206: `SUB H`. -/
def execSubH (s : State) : Result := accumulate .sub (.reg .h) s

/-- R206: `SUB L`. -/
def execSubL (s : State) : Result := accumulate .sub (.reg .l) s

/-- R207: `SUB (HL)`. -/
def execSubIndHl (s : State) : Result := accumulate .sub .indHl s

/-- R206: `SUB A`. -/
def execSubA (s : State) : Result := accumulate .sub (.reg .a) s

/-- R209: `SBC A,B`. -/
def execSbcB (s : State) : Result := accumulate .sbc (.reg .b) s

/-- R209: `SBC A,C`. -/
def execSbcC (s : State) : Result := accumulate .sbc (.reg .c) s

/-- R209: `SBC A,D`. -/
def execSbcD (s : State) : Result := accumulate .sbc (.reg .d) s

/-- R209: `SBC A,E`. -/
def execSbcE (s : State) : Result := accumulate .sbc (.reg .e) s

/-- R209: `SBC A,H`. -/
def execSbcH (s : State) : Result := accumulate .sbc (.reg .h) s

/-- R209: `SBC A,L`. -/
def execSbcL (s : State) : Result := accumulate .sbc (.reg .l) s

/-- R210: `SBC A,(HL)`. -/
def execSbcIndHl (s : State) : Result := accumulate .sbc .indHl s

/-- R209: `SBC A,A`. -/
def execSbcA (s : State) : Result := accumulate .sbc (.reg .a) s

/-- R212: `AND B`. -/
def execAndB (s : State) : Result := accumulate .and (.reg .b) s

/-- R212: `AND C`. -/
def execAndC (s : State) : Result := accumulate .and (.reg .c) s

/-- R212: `AND D`. -/
def execAndD (s : State) : Result := accumulate .and (.reg .d) s

/-- R212: `AND E`. -/
def execAndE (s : State) : Result := accumulate .and (.reg .e) s

/-- R212: `AND H`. -/
def execAndH (s : State) : Result := accumulate .and (.reg .h) s

/-- R212: `AND L`. -/
def execAndL (s : State) : Result := accumulate .and (.reg .l) s

/-- R213: `AND (HL)`. -/
def execAndIndHl (s : State) : Result := accumulate .and .indHl s

/-- R212: `AND A`. -/
def execAndA (s : State) : Result := accumulate .and (.reg .a) s

/-- R215: `XOR B`. -/
def execXorB (s : State) : Result := accumulate .xor (.reg .b) s

/-- R215: `XOR C`. -/
def execXorC (s : State) : Result := accumulate .xor (.reg .c) s

/-- R215: `XOR D`. -/
def execXorD (s : State) : Result := accumulate .xor (.reg .d) s

/-- R215: `XOR E`. -/
def execXorE (s : State) : Result := accumulate .xor (.reg .e) s

/-- R215: `XOR H`. -/
def execXorH (s : State) : Result := accumulate .xor (.reg .h) s

/-- R215: `XOR L`. -/
def execXorL (s : State) : Result := accumulate .xor (.reg .l) s

/-- R216: `XOR (HL)`. -/
def execXorIndHl (s : State) : Result := accumulate .xor .indHl s

/-- R215: `XOR A`. -/
def execXorA (s : State) : Result := accumulate .xor (.reg .a) s

/-- R218: `OR B`. -/
def execOrB (s : State) : Result := accumulate .or (.reg .b) s

/-- R218: `OR C`. -/
def execOrC (s : State) : Result := accumulate .or (.reg .c) s

/-- R218: `OR D`. -/
def execOrD (s : State) : Result := accumulate .or (.reg .d) s

/-- R218: `OR E`. -/
def execOrE (s : State) : Result := accumulate .or (.reg .e) s

/-- R218: `OR H`. -/
def execOrH (s : State) : Result := accumulate .or (.reg .h) s

/-- R218: `OR L`. -/
def execOrL (s : State) : Result := accumulate .or (.reg .l) s

/-- R219: `OR (HL)`. -/
def execOrIndHl (s : State) : Result := accumulate .or .indHl s

/-- R218: `OR A`. -/
def execOrA (s : State) : Result := accumulate .or (.reg .a) s

/-- R221: `CP B`. -/
def execCpB (s : State) : Result := accumulate .cp (.reg .b) s

/-- R221: `CP C`. -/
def execCpC (s : State) : Result := accumulate .cp (.reg .c) s

/-- R221: `CP D`. -/
def execCpD (s : State) : Result := accumulate .cp (.reg .d) s

/-- R221: `CP E`. -/
def execCpE (s : State) : Result := accumulate .cp (.reg .e) s

/-- R221: `CP H`. -/
def execCpH (s : State) : Result := accumulate .cp (.reg .h) s

/-- R221: `CP L`. -/
def execCpL (s : State) : Result := accumulate .cp (.reg .l) s

/-- R222: `CP (HL)`. -/
def execCpIndHl (s : State) : Result := accumulate .cp .indHl s

/-- R221: `CP A`. -/
def execCpA (s : State) : Result := accumulate .cp (.reg .a) s

/-- R202: `ADD A,d8`. -/
def execAddD8 (d8 : Byte) (s : State) : Result := accumulateImm .add d8 s

/-- R205: `ADC A,d8`. -/
def execAdcD8 (d8 : Byte) (s : State) : Result := accumulateImm .adc d8 s

/-- R208: `SUB d8`. -/
def execSubD8 (d8 : Byte) (s : State) : Result := accumulateImm .sub d8 s

/-- R211: `SBC A,d8`. -/
def execSbcD8 (d8 : Byte) (s : State) : Result := accumulateImm .sbc d8 s

/-- R214: `AND d8`. -/
def execAndD8 (d8 : Byte) (s : State) : Result := accumulateImm .and d8 s

/-- R217: `XOR d8`. -/
def execXorD8 (d8 : Byte) (s : State) : Result := accumulateImm .xor d8 s

/-- R220: `OR d8`. -/
def execOrD8 (d8 : Byte) (s : State) : Result := accumulateImm .or d8 s

/-- R223: `CP d8`. -/
def execCpD8 (d8 : Byte) (s : State) : Result := accumulateImm .cp d8 s

end Sys2Proof.Machine
end

