-- ==== Sys2Proof/Machine/CbPage.lean ====
section
/-! DEFINITION. The extended page (48_cb_page.md) and the prefix that leads to it (47_system.md R275). -/

namespace Sys2Proof.Machine

/-! ### Shared operations -/

/-- The rotates and shifts (R280 to R295). -/
def rotate (op : RotOp) (o : Opnd8) (s : State) : Result :=
  match o with
  | .reg _ => done Cost.cbReg (s.modified o (rotFn op (s.operand o) s.flagC))
  | .indHl => done Cost.cbInd (s.modified o (rotFn op (s.operand o) s.flagC))

/-- `BIT b,r` and `BIT b,(HL)` (R296, R297): only flags are written. -/
def testBit (n : BitNo) (o : Opnd8) (s : State) : Result :=
  match o with
  | .reg _ => done Cost.cbReg (s.applyFlags (bit8 n (s.operand o)))
  | .indHl => done Cost.cbBitInd (s.applyFlags (bit8 n (s.operand o)))

/-- `RES b,r` and `RES b,(HL)` (R298, R299). -/
def resetBit (n : BitNo) (o : Opnd8) (s : State) : Result :=
  match o with
  | .reg _ => done Cost.cbReg (s.setOperand o (res8 n (s.operand o)))
  | .indHl => done Cost.cbInd (s.setOperand o (res8 n (s.operand o)))

/-- `SET b,r` and `SET b,(HL)` (R300, R301). -/
def setBit (n : BitNo) (o : Opnd8) (s : State) : Result :=
  match o with
  | .reg _ => done Cost.cbReg (s.setOperand o (set8 n (s.operand o)))
  | .indHl => done Cost.cbInd (s.setOperand o (set8 n (s.operand o)))

/-- The operation that the fields `g`, `b` and `r` of an extended opcode select (30_encoding.md R96). -/
def extendedOp (op2 : Byte) (s : State) : Result :=
  match fieldX op2 with
  | 0 => rotate (rotField (fieldY op2)) (opndField (fieldZ op2)) s
  | 1 => testBit (bitField (fieldY op2)) (opndField (fieldZ op2)) s
  | 2 => resetBit (bitField (fieldY op2)) (opndField (fieldZ op2)) s
  | _ => setBit (bitField (fieldY op2)) (opndField (fieldZ op2)) s

/-! ### The rows -/

/-- R275: `PREFIX CB`. -/
def execPrefixCb (op2 : Byte) (s : State) : Result := extendedOp op2 s

/-- R280: `RLC B`. -/
def execRlcB (s : State) : Result := rotate .rlc (.reg .b) s

/-- R280: `RLC C`. -/
def execRlcC (s : State) : Result := rotate .rlc (.reg .c) s

/-- R280: `RLC D`. -/
def execRlcD (s : State) : Result := rotate .rlc (.reg .d) s

/-- R280: `RLC E`. -/
def execRlcE (s : State) : Result := rotate .rlc (.reg .e) s

/-- R280: `RLC H`. -/
def execRlcH (s : State) : Result := rotate .rlc (.reg .h) s

/-- R280: `RLC L`. -/
def execRlcL (s : State) : Result := rotate .rlc (.reg .l) s

/-- R281: `RLC (HL)`. -/
def execRlcIndHl (s : State) : Result := rotate .rlc .indHl s

/-- R280: `RLC A`. -/
def execRlcA (s : State) : Result := rotate .rlc (.reg .a) s

/-- R282: `RRC B`. -/
def execRrcB (s : State) : Result := rotate .rrc (.reg .b) s

/-- R282: `RRC C`. -/
def execRrcC (s : State) : Result := rotate .rrc (.reg .c) s

/-- R282: `RRC D`. -/
def execRrcD (s : State) : Result := rotate .rrc (.reg .d) s

/-- R282: `RRC E`. -/
def execRrcE (s : State) : Result := rotate .rrc (.reg .e) s

/-- R282: `RRC H`. -/
def execRrcH (s : State) : Result := rotate .rrc (.reg .h) s

/-- R282: `RRC L`. -/
def execRrcL (s : State) : Result := rotate .rrc (.reg .l) s

/-- R283: `RRC (HL)`. -/
def execRrcIndHl (s : State) : Result := rotate .rrc .indHl s

/-- R282: `RRC A`. -/
def execRrcA (s : State) : Result := rotate .rrc (.reg .a) s

/-- R284: `RL B`. -/
def execRlB (s : State) : Result := rotate .rl (.reg .b) s

/-- R284: `RL C`. -/
def execRlC (s : State) : Result := rotate .rl (.reg .c) s

/-- R284: `RL D`. -/
def execRlD (s : State) : Result := rotate .rl (.reg .d) s

/-- R284: `RL E`. -/
def execRlE (s : State) : Result := rotate .rl (.reg .e) s

/-- R284: `RL H`. -/
def execRlH (s : State) : Result := rotate .rl (.reg .h) s

/-- R284: `RL L`. -/
def execRlL (s : State) : Result := rotate .rl (.reg .l) s

/-- R285: `RL (HL)`. -/
def execRlIndHl (s : State) : Result := rotate .rl .indHl s

/-- R284: `RL A`. -/
def execRlA (s : State) : Result := rotate .rl (.reg .a) s

/-- R286: `RR B`. -/
def execRrB (s : State) : Result := rotate .rr (.reg .b) s

/-- R286: `RR C`. -/
def execRrC (s : State) : Result := rotate .rr (.reg .c) s

/-- R286: `RR D`. -/
def execRrD (s : State) : Result := rotate .rr (.reg .d) s

/-- R286: `RR E`. -/
def execRrE (s : State) : Result := rotate .rr (.reg .e) s

/-- R286: `RR H`. -/
def execRrH (s : State) : Result := rotate .rr (.reg .h) s

/-- R286: `RR L`. -/
def execRrL (s : State) : Result := rotate .rr (.reg .l) s

/-- R287: `RR (HL)`. -/
def execRrIndHl (s : State) : Result := rotate .rr .indHl s

/-- R286: `RR A`. -/
def execRrA (s : State) : Result := rotate .rr (.reg .a) s

/-- R288: `SLA B`. -/
def execSlaB (s : State) : Result := rotate .sla (.reg .b) s

/-- R288: `SLA C`. -/
def execSlaC (s : State) : Result := rotate .sla (.reg .c) s

/-- R288: `SLA D`. -/
def execSlaD (s : State) : Result := rotate .sla (.reg .d) s

/-- R288: `SLA E`. -/
def execSlaE (s : State) : Result := rotate .sla (.reg .e) s

/-- R288: `SLA H`. -/
def execSlaH (s : State) : Result := rotate .sla (.reg .h) s

/-- R288: `SLA L`. -/
def execSlaL (s : State) : Result := rotate .sla (.reg .l) s

/-- R289: `SLA (HL)`. -/
def execSlaIndHl (s : State) : Result := rotate .sla .indHl s

/-- R288: `SLA A`. -/
def execSlaA (s : State) : Result := rotate .sla (.reg .a) s

/-- R290: `SRA B`. -/
def execSraB (s : State) : Result := rotate .sra (.reg .b) s

/-- R290: `SRA C`. -/
def execSraC (s : State) : Result := rotate .sra (.reg .c) s

/-- R290: `SRA D`. -/
def execSraD (s : State) : Result := rotate .sra (.reg .d) s

/-- R290: `SRA E`. -/
def execSraE (s : State) : Result := rotate .sra (.reg .e) s

/-- R290: `SRA H`. -/
def execSraH (s : State) : Result := rotate .sra (.reg .h) s

/-- R290: `SRA L`. -/
def execSraL (s : State) : Result := rotate .sra (.reg .l) s

/-- R291: `SRA (HL)`. -/
def execSraIndHl (s : State) : Result := rotate .sra .indHl s

/-- R290: `SRA A`. -/
def execSraA (s : State) : Result := rotate .sra (.reg .a) s

/-- R292: `SWAP B`. -/
def execSwapB (s : State) : Result := rotate .swap (.reg .b) s

/-- R292: `SWAP C`. -/
def execSwapC (s : State) : Result := rotate .swap (.reg .c) s

/-- R292: `SWAP D`. -/
def execSwapD (s : State) : Result := rotate .swap (.reg .d) s

/-- R292: `SWAP E`. -/
def execSwapE (s : State) : Result := rotate .swap (.reg .e) s

/-- R292: `SWAP H`. -/
def execSwapH (s : State) : Result := rotate .swap (.reg .h) s

/-- R292: `SWAP L`. -/
def execSwapL (s : State) : Result := rotate .swap (.reg .l) s

/-- R293: `SWAP (HL)`. -/
def execSwapIndHl (s : State) : Result := rotate .swap .indHl s

/-- R292: `SWAP A`. -/
def execSwapA (s : State) : Result := rotate .swap (.reg .a) s

/-- R294: `SRL B`. -/
def execSrlB (s : State) : Result := rotate .srl (.reg .b) s

/-- R294: `SRL C`. -/
def execSrlC (s : State) : Result := rotate .srl (.reg .c) s

/-- R294: `SRL D`. -/
def execSrlD (s : State) : Result := rotate .srl (.reg .d) s

/-- R294: `SRL E`. -/
def execSrlE (s : State) : Result := rotate .srl (.reg .e) s

/-- R294: `SRL H`. -/
def execSrlH (s : State) : Result := rotate .srl (.reg .h) s

/-- R294: `SRL L`. -/
def execSrlL (s : State) : Result := rotate .srl (.reg .l) s

/-- R295: `SRL (HL)`. -/
def execSrlIndHl (s : State) : Result := rotate .srl .indHl s

/-- R294: `SRL A`. -/
def execSrlA (s : State) : Result := rotate .srl (.reg .a) s

/-- R296: `BIT 0,B`. -/
def execBit0B (s : State) : Result := testBit .n0 (.reg .b) s

/-- R296: `BIT 0,C`. -/
def execBit0C (s : State) : Result := testBit .n0 (.reg .c) s

/-- R296: `BIT 0,D`. -/
def execBit0D (s : State) : Result := testBit .n0 (.reg .d) s

/-- R296: `BIT 0,E`. -/
def execBit0E (s : State) : Result := testBit .n0 (.reg .e) s

/-- R296: `BIT 0,H`. -/
def execBit0H (s : State) : Result := testBit .n0 (.reg .h) s

/-- R296: `BIT 0,L`. -/
def execBit0L (s : State) : Result := testBit .n0 (.reg .l) s

/-- R297: `BIT 0,(HL)`. -/
def execBit0IndHl (s : State) : Result := testBit .n0 .indHl s

/-- R296: `BIT 0,A`. -/
def execBit0A (s : State) : Result := testBit .n0 (.reg .a) s

/-- R296: `BIT 1,B`. -/
def execBit1B (s : State) : Result := testBit .n1 (.reg .b) s

/-- R296: `BIT 1,C`. -/
def execBit1C (s : State) : Result := testBit .n1 (.reg .c) s

/-- R296: `BIT 1,D`. -/
def execBit1D (s : State) : Result := testBit .n1 (.reg .d) s

/-- R296: `BIT 1,E`. -/
def execBit1E (s : State) : Result := testBit .n1 (.reg .e) s

/-- R296: `BIT 1,H`. -/
def execBit1H (s : State) : Result := testBit .n1 (.reg .h) s

/-- R296: `BIT 1,L`. -/
def execBit1L (s : State) : Result := testBit .n1 (.reg .l) s

/-- R297: `BIT 1,(HL)`. -/
def execBit1IndHl (s : State) : Result := testBit .n1 .indHl s

/-- R296: `BIT 1,A`. -/
def execBit1A (s : State) : Result := testBit .n1 (.reg .a) s

/-- R296: `BIT 2,B`. -/
def execBit2B (s : State) : Result := testBit .n2 (.reg .b) s

/-- R296: `BIT 2,C`. -/
def execBit2C (s : State) : Result := testBit .n2 (.reg .c) s

/-- R296: `BIT 2,D`. -/
def execBit2D (s : State) : Result := testBit .n2 (.reg .d) s

/-- R296: `BIT 2,E`. -/
def execBit2E (s : State) : Result := testBit .n2 (.reg .e) s

/-- R296: `BIT 2,H`. -/
def execBit2H (s : State) : Result := testBit .n2 (.reg .h) s

/-- R296: `BIT 2,L`. -/
def execBit2L (s : State) : Result := testBit .n2 (.reg .l) s

/-- R297: `BIT 2,(HL)`. -/
def execBit2IndHl (s : State) : Result := testBit .n2 .indHl s

/-- R296: `BIT 2,A`. -/
def execBit2A (s : State) : Result := testBit .n2 (.reg .a) s

/-- R296: `BIT 3,B`. -/
def execBit3B (s : State) : Result := testBit .n3 (.reg .b) s

/-- R296: `BIT 3,C`. -/
def execBit3C (s : State) : Result := testBit .n3 (.reg .c) s

/-- R296: `BIT 3,D`. -/
def execBit3D (s : State) : Result := testBit .n3 (.reg .d) s

/-- R296: `BIT 3,E`. -/
def execBit3E (s : State) : Result := testBit .n3 (.reg .e) s

/-- R296: `BIT 3,H`. -/
def execBit3H (s : State) : Result := testBit .n3 (.reg .h) s

/-- R296: `BIT 3,L`. -/
def execBit3L (s : State) : Result := testBit .n3 (.reg .l) s

/-- R297: `BIT 3,(HL)`. -/
def execBit3IndHl (s : State) : Result := testBit .n3 .indHl s

/-- R296: `BIT 3,A`. -/
def execBit3A (s : State) : Result := testBit .n3 (.reg .a) s

/-- R296: `BIT 4,B`. -/
def execBit4B (s : State) : Result := testBit .n4 (.reg .b) s

/-- R296: `BIT 4,C`. -/
def execBit4C (s : State) : Result := testBit .n4 (.reg .c) s

/-- R296: `BIT 4,D`. -/
def execBit4D (s : State) : Result := testBit .n4 (.reg .d) s

/-- R296: `BIT 4,E`. -/
def execBit4E (s : State) : Result := testBit .n4 (.reg .e) s

/-- R296: `BIT 4,H`. -/
def execBit4H (s : State) : Result := testBit .n4 (.reg .h) s

/-- R296: `BIT 4,L`. -/
def execBit4L (s : State) : Result := testBit .n4 (.reg .l) s

/-- R297: `BIT 4,(HL)`. -/
def execBit4IndHl (s : State) : Result := testBit .n4 .indHl s

/-- R296: `BIT 4,A`. -/
def execBit4A (s : State) : Result := testBit .n4 (.reg .a) s

/-- R296: `BIT 5,B`. -/
def execBit5B (s : State) : Result := testBit .n5 (.reg .b) s

/-- R296: `BIT 5,C`. -/
def execBit5C (s : State) : Result := testBit .n5 (.reg .c) s

/-- R296: `BIT 5,D`. -/
def execBit5D (s : State) : Result := testBit .n5 (.reg .d) s

/-- R296: `BIT 5,E`. -/
def execBit5E (s : State) : Result := testBit .n5 (.reg .e) s

/-- R296: `BIT 5,H`. -/
def execBit5H (s : State) : Result := testBit .n5 (.reg .h) s

/-- R296: `BIT 5,L`. -/
def execBit5L (s : State) : Result := testBit .n5 (.reg .l) s

/-- R297: `BIT 5,(HL)`. -/
def execBit5IndHl (s : State) : Result := testBit .n5 .indHl s

/-- R296: `BIT 5,A`. -/
def execBit5A (s : State) : Result := testBit .n5 (.reg .a) s

/-- R296: `BIT 6,B`. -/
def execBit6B (s : State) : Result := testBit .n6 (.reg .b) s

/-- R296: `BIT 6,C`. -/
def execBit6C (s : State) : Result := testBit .n6 (.reg .c) s

/-- R296: `BIT 6,D`. -/
def execBit6D (s : State) : Result := testBit .n6 (.reg .d) s

/-- R296: `BIT 6,E`. -/
def execBit6E (s : State) : Result := testBit .n6 (.reg .e) s

/-- R296: `BIT 6,H`. -/
def execBit6H (s : State) : Result := testBit .n6 (.reg .h) s

/-- R296: `BIT 6,L`. -/
def execBit6L (s : State) : Result := testBit .n6 (.reg .l) s

/-- R297: `BIT 6,(HL)`. -/
def execBit6IndHl (s : State) : Result := testBit .n6 .indHl s

/-- R296: `BIT 6,A`. -/
def execBit6A (s : State) : Result := testBit .n6 (.reg .a) s

/-- R296: `BIT 7,B`. -/
def execBit7B (s : State) : Result := testBit .n7 (.reg .b) s

/-- R296: `BIT 7,C`. -/
def execBit7C (s : State) : Result := testBit .n7 (.reg .c) s

/-- R296: `BIT 7,D`. -/
def execBit7D (s : State) : Result := testBit .n7 (.reg .d) s

/-- R296: `BIT 7,E`. -/
def execBit7E (s : State) : Result := testBit .n7 (.reg .e) s

/-- R296: `BIT 7,H`. -/
def execBit7H (s : State) : Result := testBit .n7 (.reg .h) s

/-- R296: `BIT 7,L`. -/
def execBit7L (s : State) : Result := testBit .n7 (.reg .l) s

/-- R297: `BIT 7,(HL)`. -/
def execBit7IndHl (s : State) : Result := testBit .n7 .indHl s

/-- R296: `BIT 7,A`. -/
def execBit7A (s : State) : Result := testBit .n7 (.reg .a) s

/-- R298: `RES 0,B`. -/
def execRes0B (s : State) : Result := resetBit .n0 (.reg .b) s

/-- R298: `RES 0,C`. -/
def execRes0C (s : State) : Result := resetBit .n0 (.reg .c) s

/-- R298: `RES 0,D`. -/
def execRes0D (s : State) : Result := resetBit .n0 (.reg .d) s

/-- R298: `RES 0,E`. -/
def execRes0E (s : State) : Result := resetBit .n0 (.reg .e) s

/-- R298: `RES 0,H`. -/
def execRes0H (s : State) : Result := resetBit .n0 (.reg .h) s

/-- R298: `RES 0,L`. -/
def execRes0L (s : State) : Result := resetBit .n0 (.reg .l) s

/-- R299: `RES 0,(HL)`. -/
def execRes0IndHl (s : State) : Result := resetBit .n0 .indHl s

/-- R298: `RES 0,A`. -/
def execRes0A (s : State) : Result := resetBit .n0 (.reg .a) s

/-- R298: `RES 1,B`. -/
def execRes1B (s : State) : Result := resetBit .n1 (.reg .b) s

/-- R298: `RES 1,C`. -/
def execRes1C (s : State) : Result := resetBit .n1 (.reg .c) s

/-- R298: `RES 1,D`. -/
def execRes1D (s : State) : Result := resetBit .n1 (.reg .d) s

/-- R298: `RES 1,E`. -/
def execRes1E (s : State) : Result := resetBit .n1 (.reg .e) s

/-- R298: `RES 1,H`. -/
def execRes1H (s : State) : Result := resetBit .n1 (.reg .h) s

/-- R298: `RES 1,L`. -/
def execRes1L (s : State) : Result := resetBit .n1 (.reg .l) s

/-- R299: `RES 1,(HL)`. -/
def execRes1IndHl (s : State) : Result := resetBit .n1 .indHl s

/-- R298: `RES 1,A`. -/
def execRes1A (s : State) : Result := resetBit .n1 (.reg .a) s

/-- R298: `RES 2,B`. -/
def execRes2B (s : State) : Result := resetBit .n2 (.reg .b) s

/-- R298: `RES 2,C`. -/
def execRes2C (s : State) : Result := resetBit .n2 (.reg .c) s

/-- R298: `RES 2,D`. -/
def execRes2D (s : State) : Result := resetBit .n2 (.reg .d) s

/-- R298: `RES 2,E`. -/
def execRes2E (s : State) : Result := resetBit .n2 (.reg .e) s

/-- R298: `RES 2,H`. -/
def execRes2H (s : State) : Result := resetBit .n2 (.reg .h) s

/-- R298: `RES 2,L`. -/
def execRes2L (s : State) : Result := resetBit .n2 (.reg .l) s

/-- R299: `RES 2,(HL)`. -/
def execRes2IndHl (s : State) : Result := resetBit .n2 .indHl s

/-- R298: `RES 2,A`. -/
def execRes2A (s : State) : Result := resetBit .n2 (.reg .a) s

/-- R298: `RES 3,B`. -/
def execRes3B (s : State) : Result := resetBit .n3 (.reg .b) s

/-- R298: `RES 3,C`. -/
def execRes3C (s : State) : Result := resetBit .n3 (.reg .c) s

/-- R298: `RES 3,D`. -/
def execRes3D (s : State) : Result := resetBit .n3 (.reg .d) s

/-- R298: `RES 3,E`. -/
def execRes3E (s : State) : Result := resetBit .n3 (.reg .e) s

/-- R298: `RES 3,H`. -/
def execRes3H (s : State) : Result := resetBit .n3 (.reg .h) s

/-- R298: `RES 3,L`. -/
def execRes3L (s : State) : Result := resetBit .n3 (.reg .l) s

/-- R299: `RES 3,(HL)`. -/
def execRes3IndHl (s : State) : Result := resetBit .n3 .indHl s

/-- R298: `RES 3,A`. -/
def execRes3A (s : State) : Result := resetBit .n3 (.reg .a) s

/-- R298: `RES 4,B`. -/
def execRes4B (s : State) : Result := resetBit .n4 (.reg .b) s

/-- R298: `RES 4,C`. -/
def execRes4C (s : State) : Result := resetBit .n4 (.reg .c) s

/-- R298: `RES 4,D`. -/
def execRes4D (s : State) : Result := resetBit .n4 (.reg .d) s

/-- R298: `RES 4,E`. -/
def execRes4E (s : State) : Result := resetBit .n4 (.reg .e) s

/-- R298: `RES 4,H`. -/
def execRes4H (s : State) : Result := resetBit .n4 (.reg .h) s

/-- R298: `RES 4,L`. -/
def execRes4L (s : State) : Result := resetBit .n4 (.reg .l) s

/-- R299: `RES 4,(HL)`. -/
def execRes4IndHl (s : State) : Result := resetBit .n4 .indHl s

/-- R298: `RES 4,A`. -/
def execRes4A (s : State) : Result := resetBit .n4 (.reg .a) s

/-- R298: `RES 5,B`. -/
def execRes5B (s : State) : Result := resetBit .n5 (.reg .b) s

/-- R298: `RES 5,C`. -/
def execRes5C (s : State) : Result := resetBit .n5 (.reg .c) s

/-- R298: `RES 5,D`. -/
def execRes5D (s : State) : Result := resetBit .n5 (.reg .d) s

/-- R298: `RES 5,E`. -/
def execRes5E (s : State) : Result := resetBit .n5 (.reg .e) s

/-- R298: `RES 5,H`. -/
def execRes5H (s : State) : Result := resetBit .n5 (.reg .h) s

/-- R298: `RES 5,L`. -/
def execRes5L (s : State) : Result := resetBit .n5 (.reg .l) s

/-- R299: `RES 5,(HL)`. -/
def execRes5IndHl (s : State) : Result := resetBit .n5 .indHl s

/-- R298: `RES 5,A`. -/
def execRes5A (s : State) : Result := resetBit .n5 (.reg .a) s

/-- R298: `RES 6,B`. -/
def execRes6B (s : State) : Result := resetBit .n6 (.reg .b) s

/-- R298: `RES 6,C`. -/
def execRes6C (s : State) : Result := resetBit .n6 (.reg .c) s

/-- R298: `RES 6,D`. -/
def execRes6D (s : State) : Result := resetBit .n6 (.reg .d) s

/-- R298: `RES 6,E`. -/
def execRes6E (s : State) : Result := resetBit .n6 (.reg .e) s

/-- R298: `RES 6,H`. -/
def execRes6H (s : State) : Result := resetBit .n6 (.reg .h) s

/-- R298: `RES 6,L`. -/
def execRes6L (s : State) : Result := resetBit .n6 (.reg .l) s

/-- R299: `RES 6,(HL)`. -/
def execRes6IndHl (s : State) : Result := resetBit .n6 .indHl s

/-- R298: `RES 6,A`. -/
def execRes6A (s : State) : Result := resetBit .n6 (.reg .a) s

/-- R298: `RES 7,B`. -/
def execRes7B (s : State) : Result := resetBit .n7 (.reg .b) s

/-- R298: `RES 7,C`. -/
def execRes7C (s : State) : Result := resetBit .n7 (.reg .c) s

/-- R298: `RES 7,D`. -/
def execRes7D (s : State) : Result := resetBit .n7 (.reg .d) s

/-- R298: `RES 7,E`. -/
def execRes7E (s : State) : Result := resetBit .n7 (.reg .e) s

/-- R298: `RES 7,H`. -/
def execRes7H (s : State) : Result := resetBit .n7 (.reg .h) s

/-- R298: `RES 7,L`. -/
def execRes7L (s : State) : Result := resetBit .n7 (.reg .l) s

/-- R299: `RES 7,(HL)`. -/
def execRes7IndHl (s : State) : Result := resetBit .n7 .indHl s

/-- R298: `RES 7,A`. -/
def execRes7A (s : State) : Result := resetBit .n7 (.reg .a) s

/-- R300: `SET 0,B`. -/
def execSet0B (s : State) : Result := setBit .n0 (.reg .b) s

/-- R300: `SET 0,C`. -/
def execSet0C (s : State) : Result := setBit .n0 (.reg .c) s

/-- R300: `SET 0,D`. -/
def execSet0D (s : State) : Result := setBit .n0 (.reg .d) s

/-- R300: `SET 0,E`. -/
def execSet0E (s : State) : Result := setBit .n0 (.reg .e) s

/-- R300: `SET 0,H`. -/
def execSet0H (s : State) : Result := setBit .n0 (.reg .h) s

/-- R300: `SET 0,L`. -/
def execSet0L (s : State) : Result := setBit .n0 (.reg .l) s

/-- R301: `SET 0,(HL)`. -/
def execSet0IndHl (s : State) : Result := setBit .n0 .indHl s

/-- R300: `SET 0,A`. -/
def execSet0A (s : State) : Result := setBit .n0 (.reg .a) s

/-- R300: `SET 1,B`. -/
def execSet1B (s : State) : Result := setBit .n1 (.reg .b) s

/-- R300: `SET 1,C`. -/
def execSet1C (s : State) : Result := setBit .n1 (.reg .c) s

/-- R300: `SET 1,D`. -/
def execSet1D (s : State) : Result := setBit .n1 (.reg .d) s

/-- R300: `SET 1,E`. -/
def execSet1E (s : State) : Result := setBit .n1 (.reg .e) s

/-- R300: `SET 1,H`. -/
def execSet1H (s : State) : Result := setBit .n1 (.reg .h) s

/-- R300: `SET 1,L`. -/
def execSet1L (s : State) : Result := setBit .n1 (.reg .l) s

/-- R301: `SET 1,(HL)`. -/
def execSet1IndHl (s : State) : Result := setBit .n1 .indHl s

/-- R300: `SET 1,A`. -/
def execSet1A (s : State) : Result := setBit .n1 (.reg .a) s

/-- R300: `SET 2,B`. -/
def execSet2B (s : State) : Result := setBit .n2 (.reg .b) s

/-- R300: `SET 2,C`. -/
def execSet2C (s : State) : Result := setBit .n2 (.reg .c) s

/-- R300: `SET 2,D`. -/
def execSet2D (s : State) : Result := setBit .n2 (.reg .d) s

/-- R300: `SET 2,E`. -/
def execSet2E (s : State) : Result := setBit .n2 (.reg .e) s

/-- R300: `SET 2,H`. -/
def execSet2H (s : State) : Result := setBit .n2 (.reg .h) s

/-- R300: `SET 2,L`. -/
def execSet2L (s : State) : Result := setBit .n2 (.reg .l) s

/-- R301: `SET 2,(HL)`. -/
def execSet2IndHl (s : State) : Result := setBit .n2 .indHl s

/-- R300: `SET 2,A`. -/
def execSet2A (s : State) : Result := setBit .n2 (.reg .a) s

/-- R300: `SET 3,B`. -/
def execSet3B (s : State) : Result := setBit .n3 (.reg .b) s

/-- R300: `SET 3,C`. -/
def execSet3C (s : State) : Result := setBit .n3 (.reg .c) s

/-- R300: `SET 3,D`. -/
def execSet3D (s : State) : Result := setBit .n3 (.reg .d) s

/-- R300: `SET 3,E`. -/
def execSet3E (s : State) : Result := setBit .n3 (.reg .e) s

/-- R300: `SET 3,H`. -/
def execSet3H (s : State) : Result := setBit .n3 (.reg .h) s

/-- R300: `SET 3,L`. -/
def execSet3L (s : State) : Result := setBit .n3 (.reg .l) s

/-- R301: `SET 3,(HL)`. -/
def execSet3IndHl (s : State) : Result := setBit .n3 .indHl s

/-- R300: `SET 3,A`. -/
def execSet3A (s : State) : Result := setBit .n3 (.reg .a) s

/-- R300: `SET 4,B`. -/
def execSet4B (s : State) : Result := setBit .n4 (.reg .b) s

/-- R300: `SET 4,C`. -/
def execSet4C (s : State) : Result := setBit .n4 (.reg .c) s

/-- R300: `SET 4,D`. -/
def execSet4D (s : State) : Result := setBit .n4 (.reg .d) s

/-- R300: `SET 4,E`. -/
def execSet4E (s : State) : Result := setBit .n4 (.reg .e) s

/-- R300: `SET 4,H`. -/
def execSet4H (s : State) : Result := setBit .n4 (.reg .h) s

/-- R300: `SET 4,L`. -/
def execSet4L (s : State) : Result := setBit .n4 (.reg .l) s

/-- R301: `SET 4,(HL)`. -/
def execSet4IndHl (s : State) : Result := setBit .n4 .indHl s

/-- R300: `SET 4,A`. -/
def execSet4A (s : State) : Result := setBit .n4 (.reg .a) s

/-- R300: `SET 5,B`. -/
def execSet5B (s : State) : Result := setBit .n5 (.reg .b) s

/-- R300: `SET 5,C`. -/
def execSet5C (s : State) : Result := setBit .n5 (.reg .c) s

/-- R300: `SET 5,D`. -/
def execSet5D (s : State) : Result := setBit .n5 (.reg .d) s

/-- R300: `SET 5,E`. -/
def execSet5E (s : State) : Result := setBit .n5 (.reg .e) s

/-- R300: `SET 5,H`. -/
def execSet5H (s : State) : Result := setBit .n5 (.reg .h) s

/-- R300: `SET 5,L`. -/
def execSet5L (s : State) : Result := setBit .n5 (.reg .l) s

/-- R301: `SET 5,(HL)`. -/
def execSet5IndHl (s : State) : Result := setBit .n5 .indHl s

/-- R300: `SET 5,A`. -/
def execSet5A (s : State) : Result := setBit .n5 (.reg .a) s

/-- R300: `SET 6,B`. -/
def execSet6B (s : State) : Result := setBit .n6 (.reg .b) s

/-- R300: `SET 6,C`. -/
def execSet6C (s : State) : Result := setBit .n6 (.reg .c) s

/-- R300: `SET 6,D`. -/
def execSet6D (s : State) : Result := setBit .n6 (.reg .d) s

/-- R300: `SET 6,E`. -/
def execSet6E (s : State) : Result := setBit .n6 (.reg .e) s

/-- R300: `SET 6,H`. -/
def execSet6H (s : State) : Result := setBit .n6 (.reg .h) s

/-- R300: `SET 6,L`. -/
def execSet6L (s : State) : Result := setBit .n6 (.reg .l) s

/-- R301: `SET 6,(HL)`. -/
def execSet6IndHl (s : State) : Result := setBit .n6 .indHl s

/-- R300: `SET 6,A`. -/
def execSet6A (s : State) : Result := setBit .n6 (.reg .a) s

/-- R300: `SET 7,B`. -/
def execSet7B (s : State) : Result := setBit .n7 (.reg .b) s

/-- R300: `SET 7,C`. -/
def execSet7C (s : State) : Result := setBit .n7 (.reg .c) s

/-- R300: `SET 7,D`. -/
def execSet7D (s : State) : Result := setBit .n7 (.reg .d) s

/-- R300: `SET 7,E`. -/
def execSet7E (s : State) : Result := setBit .n7 (.reg .e) s

/-- R300: `SET 7,H`. -/
def execSet7H (s : State) : Result := setBit .n7 (.reg .h) s

/-- R300: `SET 7,L`. -/
def execSet7L (s : State) : Result := setBit .n7 (.reg .l) s

/-- R301: `SET 7,(HL)`. -/
def execSet7IndHl (s : State) : Result := setBit .n7 .indHl s

/-- R300: `SET 7,A`. -/
def execSet7A (s : State) : Result := setBit .n7 (.reg .a) s

end Sys2Proof.Machine
end

