-- ==== Sys2Proof/Machine/Control.lean ====
section
/-! DEFINITION. Control transfer (46_control.md). No flag changes. -/

namespace Sys2Proof.Machine

/-! ### Shared operations -/

/-- `pc <- a16` (R250). -/
def jump (t : Word) (s : State) : Result := done Cost.jp { s with pc := t }

/-- `if Cond(cc): pc <- a16` (R251). -/
def jumpIf (cc : Cond) (t : Word) (s : State) : Result :=
  if s.cond cc then done Cost.jp { s with pc := t } else done Cost.jpNotTaken s

/-- `pc <- HL`; memory is not read (R252). -/
def jumpHl (s : State) : Result := done Cost.jpHl { s with pc := s.hl }

/-- `pc <- pc + sext(e8)` (R253). -/
def jumpRelative (e : Byte) (s : State) : Result := done Cost.jr { s with pc := s.pc + sext e }

/-- `if Cond(cc): pc <- pc + sext(e8)` (R254). -/
def jumpRelativeIf (cc : Cond) (e : Byte) (s : State) : Result :=
  if s.cond cc then done Cost.jr { s with pc := s.pc + sext e } else done Cost.jrNotTaken s

/-- `Push16(pc); pc <- t`. -/
def State.called (s : State) (t : Word) : State := { s.push16 s.pc with pc := t }

/-- `CALL a16` (R255). -/
def call (t : Word) (s : State) : Result := done Cost.call (s.called t)

/-- `CALL cc,a16` (R256). -/
def callIf (cc : Cond) (t : Word) (s : State) : Result :=
  if s.cond cc then done Cost.call (s.called t) else done Cost.callNotTaken s

/-- `pc <- Pop16()`. -/
def State.returned (s : State) : State := { s.popState with pc := s.popValue }

/-- `RET` (R257). -/
def ret (s : State) : Result := done Cost.ret s.returned

/-- `RET cc` (R258). -/
def retIf (cc : Cond) (s : State) : Result :=
  if s.cond cc then done Cost.retTaken s.returned else done Cost.retNotTaken s

/-- `RETI` (R259): return, then `ArmIme(true)`. -/
def retInterrupt (s : State) : Result := done Cost.ret s.returnFromInterrupt

/-- The target of `RST`: `ttt * 8` (30_encoding.md R98). -/
def restartTarget (t : BitNo) : Word := BitVec.ofNat 16 (t.toNat * 8)

/-- `RST t` (R260). -/
def restart (t : BitNo) (s : State) : Result := done Cost.rst (s.called (restartTarget t))

/-! ### The rows -/

/-- R253: `JR e8`. -/
def execJrE8 (e8 : Byte) (s : State) : Result := jumpRelative e8 s

/-- R254: `JR NZ,e8`. -/
def execJrNzE8 (e8 : Byte) (s : State) : Result := jumpRelativeIf .nz e8 s

/-- R254: `JR Z,e8`. -/
def execJrZE8 (e8 : Byte) (s : State) : Result := jumpRelativeIf .z e8 s

/-- R254: `JR NC,e8`. -/
def execJrNcE8 (e8 : Byte) (s : State) : Result := jumpRelativeIf .nc e8 s

/-- R254: `JR C,e8`. -/
def execJrCE8 (e8 : Byte) (s : State) : Result := jumpRelativeIf .c e8 s

/-- R258: `RET NZ`. -/
def execRetNz (s : State) : Result := retIf .nz s

/-- R251: `JP NZ,a16`. -/
def execJpNzA16 (a16 : Word) (s : State) : Result := jumpIf .nz a16 s

/-- R250: `JP a16`. -/
def execJpA16 (a16 : Word) (s : State) : Result := jump a16 s

/-- R256: `CALL NZ,a16`. -/
def execCallNzA16 (a16 : Word) (s : State) : Result := callIf .nz a16 s

/-- R260: `RST 00`. -/
def execRst00 (s : State) : Result := restart .n0 s

/-- R258: `RET Z`. -/
def execRetZ (s : State) : Result := retIf .z s

/-- R257: `RET`. -/
def execRet (s : State) : Result := ret s

/-- R251: `JP Z,a16`. -/
def execJpZA16 (a16 : Word) (s : State) : Result := jumpIf .z a16 s

/-- R256: `CALL Z,a16`. -/
def execCallZA16 (a16 : Word) (s : State) : Result := callIf .z a16 s

/-- R255: `CALL a16`. -/
def execCallA16 (a16 : Word) (s : State) : Result := call a16 s

/-- R260: `RST 08`. -/
def execRst08 (s : State) : Result := restart .n1 s

/-- R258: `RET NC`. -/
def execRetNc (s : State) : Result := retIf .nc s

/-- R251: `JP NC,a16`. -/
def execJpNcA16 (a16 : Word) (s : State) : Result := jumpIf .nc a16 s

/-- R256: `CALL NC,a16`. -/
def execCallNcA16 (a16 : Word) (s : State) : Result := callIf .nc a16 s

/-- R260: `RST 10`. -/
def execRst10 (s : State) : Result := restart .n2 s

/-- R258: `RET C`. -/
def execRetC (s : State) : Result := retIf .c s

/-- R259: `RETI`. -/
def execReti (s : State) : Result := retInterrupt s

/-- R251: `JP C,a16`. -/
def execJpCA16 (a16 : Word) (s : State) : Result := jumpIf .c a16 s

/-- R256: `CALL C,a16`. -/
def execCallCA16 (a16 : Word) (s : State) : Result := callIf .c a16 s

/-- R260: `RST 18`. -/
def execRst18 (s : State) : Result := restart .n3 s

/-- R260: `RST 20`. -/
def execRst20 (s : State) : Result := restart .n4 s

/-- R252: `JP HL`. -/
def execJpHl (s : State) : Result := jumpHl s

/-- R260: `RST 28`. -/
def execRst28 (s : State) : Result := restart .n5 s

/-- R260: `RST 30`. -/
def execRst30 (s : State) : Result := restart .n6 s

/-- R260: `RST 38`. -/
def execRst38 (s : State) : Result := restart .n7 s

end Sys2Proof.Machine
end

