-- ==== Sys2Proof/Machine/Load16.lean ====
section
/-! DEFINITION. 16-bit loads and the stack (42_load16_stack.md). -/

namespace Sys2Proof.Machine

/-! ### Shared operations -/

/-- `rp[p] <- d16` (R180). -/
def loadPair (p : Pair) (v : Word) (s : State) : Result := done Cost.ldPairImm (s.setPair p v)

/-- `MemWrite(a16, 2, SP)` (R181). -/
def storeSp (addr : Word) (s : State) : Result := done Cost.ldAbsSp (s.writeWord addr s.sp)

/-- `SP <- HL` (R182). -/
def loadSpHl (s : State) : Result := done Cost.ldSpHl { s with sp := s.hl }

/-- `HL <- SP + e8` with the flags of `addsp` (R183). -/
def loadHlSp (e : Byte) (s : State) : Result :=
  done Cost.ldHlSp ((s.setHl (addsp s.sp e).1).applyFlags (addsp s.sp e).2)

/-- `Push16(rp2[p])` (R184, R185). -/
def pushPair (p : StackPair) (s : State) : Result := done Cost.push (s.push16 (s.stackPair p))

/-- `rp2[p] <- Pop16()` (R186, R187). -/
def popPair (p : StackPair) (s : State) : Result := done Cost.pop (s.popState.setStackPair p s.popValue)

/-! ### The rows -/

/-- R180: `LD BC,d16`. -/
def execLdBcD16 (d16 : Word) (s : State) : Result := loadPair .bc d16 s

/-- R181: `LD (a16),SP`. -/
def execLdIndA16Sp (a16 : Word) (s : State) : Result := storeSp a16 s

/-- R180: `LD DE,d16`. -/
def execLdDeD16 (d16 : Word) (s : State) : Result := loadPair .de d16 s

/-- R180: `LD HL,d16`. -/
def execLdHlD16 (d16 : Word) (s : State) : Result := loadPair .hl d16 s

/-- R180: `LD SP,d16`. -/
def execLdSpD16 (d16 : Word) (s : State) : Result := loadPair .sp d16 s

/-- R186: `POP BC`. -/
def execPopBc (s : State) : Result := popPair .bc s

/-- R184: `PUSH BC`. -/
def execPushBc (s : State) : Result := pushPair .bc s

/-- R186: `POP DE`. -/
def execPopDe (s : State) : Result := popPair .de s

/-- R184: `PUSH DE`. -/
def execPushDe (s : State) : Result := pushPair .de s

/-- R186: `POP HL`. -/
def execPopHl (s : State) : Result := popPair .hl s

/-- R184: `PUSH HL`. -/
def execPushHl (s : State) : Result := pushPair .hl s

/-- R187: `POP AF`. -/
def execPopAf (s : State) : Result := popPair .af s

/-- R185: `PUSH AF`. -/
def execPushAf (s : State) : Result := pushPair .af s

/-- R183: `LD HL,SP+e8`. -/
def execLdHlSpE8 (e8 : Byte) (s : State) : Result := loadHlSp e8 s

/-- R182: `LD SP,HL`. -/
def execLdSpHl (s : State) : Result := loadSpHl s

end Sys2Proof.Machine
end

