-- ==== Sys2Proof/Machine/Load8.lean ====
section
/-! DEFINITION. 8-bit loads (41_load8.md). No flag changes and none can fail. -/

namespace Sys2Proof.Machine

/-! ### Shared operations -/

/-- `x[ddd] <- x[sss]`, with either side `(HL)` (R150, R152, R153). -/
def load (d o : Opnd8) (s : State) : Result :=
  match d, o with
  | .reg _, .reg _ => done Cost.ldRegReg (s.setOperand d (s.operand o))
  | _, _ => done Cost.ldRegInd (s.setOperand d (s.operand o))

/-- `x[rrr] <- d8`, and the `(HL)` form (R151, R154). -/
def loadImm (d : Opnd8) (v : Byte) (s : State) : Result :=
  match d with
  | .reg _ => done Cost.ldRegImm (s.setOperand d v)
  | .indHl => done Cost.ldIndImm (s.setOperand d v)

/-- The cost of an accumulator load or store by addressing mode (70_reset_and_hazards.md R362). -/
def accCost : AddrMode → Nat
  | .indBc => Cost.ldAccInd
  | .indDe => Cost.ldAccInd
  | .indHlInc => Cost.ldAccInd
  | .indHlDec => Cost.ldAccInd
  | .abs _ => Cost.ldAccAbs
  | .high _ => Cost.ldHigh
  | .highC => Cost.ldHighC

/-- `A <- MemRead(ea, 1)`, then the base register's step (R155, R156, R159, R161, R163, R166, R168). -/
def loadAcc (m : AddrMode) (s : State) : Result :=
  done (accCost m) ({ s.afterAccess m with a := s.readByte (s.effAddr m) })

/-- `MemWrite(ea, 1, A)`, then the base register's step (R157, R158, R160, R162, R164, R165, R167). -/
def storeAcc (m : AddrMode) (s : State) : Result :=
  done (accCost m) ((s.writeByte (s.effAddr m) s.a).afterAccess m)

/-! ### The rows -/

/-- R157: `LD (BC),A`. -/
def execLdIndBcA (s : State) : Result := storeAcc .indBc s

/-- R151: `LD B,d8`. -/
def execLdBD8 (d8 : Byte) (s : State) : Result := loadImm (.reg .b) d8 s

/-- R155: `LD A,(BC)`. -/
def execLdAIndBc (s : State) : Result := loadAcc .indBc s

/-- R151: `LD C,d8`. -/
def execLdCD8 (d8 : Byte) (s : State) : Result := loadImm (.reg .c) d8 s

/-- R158: `LD (DE),A`. -/
def execLdIndDeA (s : State) : Result := storeAcc .indDe s

/-- R151: `LD D,d8`. -/
def execLdDD8 (d8 : Byte) (s : State) : Result := loadImm (.reg .d) d8 s

/-- R156: `LD A,(DE)`. -/
def execLdAIndDe (s : State) : Result := loadAcc .indDe s

/-- R151: `LD E,d8`. -/
def execLdED8 (d8 : Byte) (s : State) : Result := loadImm (.reg .e) d8 s

/-- R165: `LD (HL+),A`. -/
def execLdIndHlIncA (s : State) : Result := storeAcc .indHlInc s

/-- R151: `LD H,d8`. -/
def execLdHD8 (d8 : Byte) (s : State) : Result := loadImm (.reg .h) d8 s

/-- R166: `LD A,(HL+)`. -/
def execLdAIndHlInc (s : State) : Result := loadAcc .indHlInc s

/-- R151: `LD L,d8`. -/
def execLdLD8 (d8 : Byte) (s : State) : Result := loadImm (.reg .l) d8 s

/-- R167: `LD (HL-),A`. -/
def execLdIndHlDecA (s : State) : Result := storeAcc .indHlDec s

/-- R154: `LD (HL),d8`. -/
def execLdIndHlD8 (d8 : Byte) (s : State) : Result := loadImm .indHl d8 s

/-- R168: `LD A,(HL-)`. -/
def execLdAIndHlDec (s : State) : Result := loadAcc .indHlDec s

/-- R151: `LD A,d8`. -/
def execLdAD8 (d8 : Byte) (s : State) : Result := loadImm (.reg .a) d8 s

/-- R150: `LD B,B`. -/
def execLdBB (s : State) : Result := load (.reg .b) (.reg .b) s

/-- R150: `LD B,C`. -/
def execLdBC (s : State) : Result := load (.reg .b) (.reg .c) s

/-- R150: `LD B,D`. -/
def execLdBD (s : State) : Result := load (.reg .b) (.reg .d) s

/-- R150: `LD B,E`. -/
def execLdBE (s : State) : Result := load (.reg .b) (.reg .e) s

/-- R150: `LD B,H`. -/
def execLdBH (s : State) : Result := load (.reg .b) (.reg .h) s

/-- R150: `LD B,L`. -/
def execLdBL (s : State) : Result := load (.reg .b) (.reg .l) s

/-- R152: `LD B,(HL)`. -/
def execLdBIndHl (s : State) : Result := load (.reg .b) .indHl s

/-- R150: `LD B,A`. -/
def execLdBA (s : State) : Result := load (.reg .b) (.reg .a) s

/-- R150: `LD C,B`. -/
def execLdCB (s : State) : Result := load (.reg .c) (.reg .b) s

/-- R150: `LD C,C`. -/
def execLdCC (s : State) : Result := load (.reg .c) (.reg .c) s

/-- R150: `LD C,D`. -/
def execLdCD (s : State) : Result := load (.reg .c) (.reg .d) s

/-- R150: `LD C,E`. -/
def execLdCE (s : State) : Result := load (.reg .c) (.reg .e) s

/-- R150: `LD C,H`. -/
def execLdCH (s : State) : Result := load (.reg .c) (.reg .h) s

/-- R150: `LD C,L`. -/
def execLdCL (s : State) : Result := load (.reg .c) (.reg .l) s

/-- R152: `LD C,(HL)`. -/
def execLdCIndHl (s : State) : Result := load (.reg .c) .indHl s

/-- R150: `LD C,A`. -/
def execLdCA (s : State) : Result := load (.reg .c) (.reg .a) s

/-- R150: `LD D,B`. -/
def execLdDB (s : State) : Result := load (.reg .d) (.reg .b) s

/-- R150: `LD D,C`. -/
def execLdDC (s : State) : Result := load (.reg .d) (.reg .c) s

/-- R150: `LD D,D`. -/
def execLdDD (s : State) : Result := load (.reg .d) (.reg .d) s

/-- R150: `LD D,E`. -/
def execLdDE (s : State) : Result := load (.reg .d) (.reg .e) s

/-- R150: `LD D,H`. -/
def execLdDH (s : State) : Result := load (.reg .d) (.reg .h) s

/-- R150: `LD D,L`. -/
def execLdDL (s : State) : Result := load (.reg .d) (.reg .l) s

/-- R152: `LD D,(HL)`. -/
def execLdDIndHl (s : State) : Result := load (.reg .d) .indHl s

/-- R150: `LD D,A`. -/
def execLdDA (s : State) : Result := load (.reg .d) (.reg .a) s

/-- R150: `LD E,B`. -/
def execLdEB (s : State) : Result := load (.reg .e) (.reg .b) s

/-- R150: `LD E,C`. -/
def execLdEC (s : State) : Result := load (.reg .e) (.reg .c) s

/-- R150: `LD E,D`. -/
def execLdED (s : State) : Result := load (.reg .e) (.reg .d) s

/-- R150: `LD E,E`. -/
def execLdEE (s : State) : Result := load (.reg .e) (.reg .e) s

/-- R150: `LD E,H`. -/
def execLdEH (s : State) : Result := load (.reg .e) (.reg .h) s

/-- R150: `LD E,L`. -/
def execLdEL (s : State) : Result := load (.reg .e) (.reg .l) s

/-- R152: `LD E,(HL)`. -/
def execLdEIndHl (s : State) : Result := load (.reg .e) .indHl s

/-- R150: `LD E,A`. -/
def execLdEA (s : State) : Result := load (.reg .e) (.reg .a) s

/-- R150: `LD H,B`. -/
def execLdHB (s : State) : Result := load (.reg .h) (.reg .b) s

/-- R150: `LD H,C`. -/
def execLdHC (s : State) : Result := load (.reg .h) (.reg .c) s

/-- R150: `LD H,D`. -/
def execLdHD (s : State) : Result := load (.reg .h) (.reg .d) s

/-- R150: `LD H,E`. -/
def execLdHE (s : State) : Result := load (.reg .h) (.reg .e) s

/-- R150: `LD H,H`. -/
def execLdHH (s : State) : Result := load (.reg .h) (.reg .h) s

/-- R150: `LD H,L`. -/
def execLdHL (s : State) : Result := load (.reg .h) (.reg .l) s

/-- R152: `LD H,(HL)`. -/
def execLdHIndHl (s : State) : Result := load (.reg .h) .indHl s

/-- R150: `LD H,A`. -/
def execLdHA (s : State) : Result := load (.reg .h) (.reg .a) s

/-- R150: `LD L,B`. -/
def execLdLB (s : State) : Result := load (.reg .l) (.reg .b) s

/-- R150: `LD L,C`. -/
def execLdLC (s : State) : Result := load (.reg .l) (.reg .c) s

/-- R150: `LD L,D`. -/
def execLdLD (s : State) : Result := load (.reg .l) (.reg .d) s

/-- R150: `LD L,E`. -/
def execLdLE (s : State) : Result := load (.reg .l) (.reg .e) s

/-- R150: `LD L,H`. -/
def execLdLH (s : State) : Result := load (.reg .l) (.reg .h) s

/-- R150: `LD L,L`. -/
def execLdLL (s : State) : Result := load (.reg .l) (.reg .l) s

/-- R152: `LD L,(HL)`. -/
def execLdLIndHl (s : State) : Result := load (.reg .l) .indHl s

/-- R150: `LD L,A`. -/
def execLdLA (s : State) : Result := load (.reg .l) (.reg .a) s

/-- R153: `LD (HL),B`. -/
def execLdIndHlB (s : State) : Result := load .indHl (.reg .b) s

/-- R153: `LD (HL),C`. -/
def execLdIndHlC (s : State) : Result := load .indHl (.reg .c) s

/-- R153: `LD (HL),D`. -/
def execLdIndHlD (s : State) : Result := load .indHl (.reg .d) s

/-- R153: `LD (HL),E`. -/
def execLdIndHlE (s : State) : Result := load .indHl (.reg .e) s

/-- R153: `LD (HL),H`. -/
def execLdIndHlH (s : State) : Result := load .indHl (.reg .h) s

/-- R153: `LD (HL),L`. -/
def execLdIndHlL (s : State) : Result := load .indHl (.reg .l) s

/-- R153: `LD (HL),A`. -/
def execLdIndHlA (s : State) : Result := load .indHl (.reg .a) s

/-- R150: `LD A,B`. -/
def execLdAB (s : State) : Result := load (.reg .a) (.reg .b) s

/-- R150: `LD A,C`. -/
def execLdAC (s : State) : Result := load (.reg .a) (.reg .c) s

/-- R150: `LD A,D`. -/
def execLdAD (s : State) : Result := load (.reg .a) (.reg .d) s

/-- R150: `LD A,E`. -/
def execLdAE (s : State) : Result := load (.reg .a) (.reg .e) s

/-- R150: `LD A,H`. -/
def execLdAH (s : State) : Result := load (.reg .a) (.reg .h) s

/-- R150: `LD A,L`. -/
def execLdAL (s : State) : Result := load (.reg .a) (.reg .l) s

/-- R152: `LD A,(HL)`. -/
def execLdAIndHl (s : State) : Result := load (.reg .a) .indHl s

/-- R150: `LD A,A`. -/
def execLdAA (s : State) : Result := load (.reg .a) (.reg .a) s

/-- R162: `LDH (a8),A`. -/
def execLdhA8A (a8 : Byte) (s : State) : Result := storeAcc (.high a8) s

/-- R164: `LD (C),A`. -/
def execLdIndCA (s : State) : Result := storeAcc .highC s

/-- R160: `LD (a16),A`. -/
def execLdIndA16A (a16 : Word) (s : State) : Result := storeAcc (.abs a16) s

/-- R161: `LDH A,(a8)`. -/
def execLdhAA8 (a8 : Byte) (s : State) : Result := loadAcc (.high a8) s

/-- R163: `LD A,(C)`. -/
def execLdAIndC (s : State) : Result := loadAcc .highC s

/-- R159: `LD A,(a16)`. -/
def execLdAIndA16 (a16 : Word) (s : State) : Result := loadAcc (.abs a16) s

end Sys2Proof.Machine
end

