-- ==== Sys2Proof/Machine/RotateAcc.lean ====
section
/-! DEFINITION. Accumulator rotates of the primary page (45_rotate_acc.md), kept apart from the extended page's
(40_alu.md R141). -/

namespace Sys2Proof.Machine

/-! ### Shared operations -/

/-- The ALU function of each accumulator rotate. -/
def accRotFn (op : AccRot) (a : Byte) (cin : Bool) : AluOut :=
  match op with
  | .rlca => rlca a
  | .rrca => rrca a
  | .rla => rla a cin
  | .rra => rra a cin

/-- A rotate of A with its flags (R240 to R243). -/
def rotateAcc (op : AccRot) (s : State) : Result :=
  let r := accRotFn op s.a s.flagC
  done Cost.accRotate (({ s with a := r.1 }).applyFlags r.2)

/-! ### The rows -/

/-- R240: `RLCA`. -/
def execRlca (s : State) : Result := rotateAcc .rlca s

/-- R241: `RRCA`. -/
def execRrca (s : State) : Result := rotateAcc .rrca s

/-- R242: `RLA`. -/
def execRla (s : State) : Result := rotateAcc .rla s

/-- R243: `RRA`. -/
def execRra (s : State) : Result := rotateAcc .rra s

end Sys2Proof.Machine
end

