-- ==== Sys2Proof/Machine/System.lean ====
section
/-! DEFINITION. System instructions and the primary bytes without a table entry (47_system.md). -/

namespace Sys2Proof.Machine

/-! ### Shared operations -/

/-- `NOP` (R270). -/
def nop (s : State) : Result := done Cost.nop s

/-- `DI`: `ArmIme(false)` (R271). -/
def disableInterrupts (s : State) : Result := done Cost.diEi (s.armIme false)

/-- `EI`: `ArmIme(true)` (R272). -/
def enableInterrupts (s : State) : Result := done Cost.diEi (s.armIme true)

/-! ### The rows -/

/-- R270: `NOP`. -/
def execNop (s : State) : Result := nop s

/-- R274: `STOP, no table entry`. -/
def execStop (s : State) : Result := noTableEntry 0x10#8 s

/-- R273: `HALT, no table entry`. -/
def execHalt (s : State) : Result := noTableEntry 0x76#8 s

/-- R276: `UNASSIGNED 0xD3, no table entry`. -/
def execUnassignedD3 (s : State) : Result := noTableEntry 0xD3#8 s

/-- R276: `UNASSIGNED 0xDB, no table entry`. -/
def execUnassignedDB (s : State) : Result := noTableEntry 0xDB#8 s

/-- R276: `UNASSIGNED 0xDD, no table entry`. -/
def execUnassignedDD (s : State) : Result := noTableEntry 0xDD#8 s

/-- R276: `UNASSIGNED 0xE3, no table entry`. -/
def execUnassignedE3 (s : State) : Result := noTableEntry 0xE3#8 s

/-- R276: `UNASSIGNED 0xE4, no table entry`. -/
def execUnassignedE4 (s : State) : Result := noTableEntry 0xE4#8 s

/-- R276: `UNASSIGNED 0xEB, no table entry`. -/
def execUnassignedEB (s : State) : Result := noTableEntry 0xEB#8 s

/-- R276: `UNASSIGNED 0xEC, no table entry`. -/
def execUnassignedEC (s : State) : Result := noTableEntry 0xEC#8 s

/-- R276: `UNASSIGNED 0xED, no table entry`. -/
def execUnassignedED (s : State) : Result := noTableEntry 0xED#8 s

/-- R271: `DI`. -/
def execDi (s : State) : Result := disableInterrupts s

/-- R276: `UNASSIGNED 0xF4, no table entry`. -/
def execUnassignedF4 (s : State) : Result := noTableEntry 0xF4#8 s

/-- R272: `EI`. -/
def execEi (s : State) : Result := enableInterrupts s

/-- R276: `UNASSIGNED 0xFC, no table entry`. -/
def execUnassignedFC (s : State) : Result := noTableEntry 0xFC#8 s

/-- R276: `UNASSIGNED 0xFD, no table entry`. -/
def execUnassignedFD (s : State) : Result := noTableEntry 0xFD#8 s

end Sys2Proof.Machine
end

