-- ==== Sys2Proof/Machine/Dtu.lean ====
section
/-! DEFINITION. The Display Timing Unit (60_exceptions.md section 5). -/

namespace Sys2Proof.Machine

/-- The scanline after `ly`: `(ly + 1) mod 154` on numbers, also for a stored 154 to 255 (R327, D23). -/
def nextLine (ly : Byte) : Byte := BitVec.ofNat 8 ((ly.toNat + 1) % linesPerFrame)

/-- The VBlank event: bit 0 of IF is set and the tick reports `frame_ready` (R328). -/
def State.vblankEvent (s : State) : State :=
  { s.writeByte ifAddr (s.readByte ifAddr ||| 0x01#8) with frameReady := true }

/-- One pass of the scanline loop (R324, R327): LY is stepped in memory, 456 is taken from ACC, and storing 144 is the
VBlank event. -/
def State.scanline (s : State) : State :=
  let ly := nextLine (s.readByte lyAddr)
  let s1 := { s.writeByte lyAddr ly with acc := s.acc - linePeriod }
  if ly = vblankLine then s1.vblankEvent else s1

/-- The passes of the scanline loop. -/
def State.scanlines : Nat → State → State
  | 0, s => s
  | n + 1, s => State.scanlines n s.scanline

/-- `DtuTick(cost)` (R324): with the LCD off LY is forced to 0 and nothing else happens (R325); with it on ACC grows by
`4 * cost` (R326) and the loop runs `ACC / 456` times (R327). The `frame_ready` it returns is the field `frameReady`. -/
def dtuTick (cost : Nat) (s : State) : State :=
  let s0 := { s with frameReady := false }
  if s.readBit lcdcAddr lcdEnableBit then
    let s1 := { s0 with acc := s.acc + dotsPerMCycle * cost }
    State.scanlines (s1.acc / linePeriod) s1
  else s0.writeByte lyAddr 0x00#8

end Sys2Proof.Machine
end

