-- ==== Sys2Proof/Machine/Tick.lean ====
section
/-! DEFINITION. Fetch and table dispatch (60_exceptions.md R315), and the tick (R310). -/

namespace Sys2Proof.Machine

/-- `ExecuteOne()` (R315): the opcode is fetched, the table entry fetches its own operand bytes (30_encoding.md R99),
and the instruction acts with `pc` at the next instruction. Every extended byte has an entry (R101). -/
def executeOne (s : State) : Result :=
  let s1 := s.fetchState8
  match primary s.fetchValue8 with
  | .whole i => exec i s1
  | .byte f => exec (f s1.fetchValue8) s1.fetchState8
  | .word f => exec (f s1.fetchValue16) s1.fetchState16
  | .ext => exec (extended s1.fetchValue8) s1.fetchState8

/-- The DTU tick that ends every tick without a Fatal, fed with the cost the CPU step returned (R310, R324). -/
def finishTick : Result → Result
  | .next s => .next (dtuTick s.cost s)
  | .fault f => .fault f
  | .refused r => .refused r

/-- The CPU step: steps 1 to 3 of the tick (R310, R319). -/
def cpuStep (s : State) : Result :=
  if s.checkPasses then
    if bitOf s.pendingEnabled vblankBit then .next (dispatch s)
    else raiseFatal (.unsupportedInterrupt s.pc s.pendingEnabled)
  else executeOne s.advanceImeDelay

/-- `Tick(S)` (R310): no tick is taken once FATAL is set (R318). -/
def tick (s : State) : Result :=
  match s.fatal with
  | some f => .fault f
  | none => finishTick (cpuStep s)

/-- `vs` stored from `addr` on, addresses modulo 65536. -/
def State.storeBytes (s : State) (addr : Word) : List Byte → State
  | [] => s
  | v :: vs => (s.writeByte addr v).storeBytes (addr + 1) vs

/-- What the next tick needs in order to fetch: no FATAL (R318), and an interrupt check that does not pass (R311). -/
def State.readyToFetch (s : State) : State :=
  { s with fatal := none, ime := s.ime && !s.checkPasses }

end Sys2Proof.Machine
end

