-- ==== Sys2Proof/Machine/Step.lean ====
section
/-! DEFINITION. One step of the machine is one tick. -/

namespace Sys2Proof.Machine

/-- One tick (60_exceptions.md R310). -/
def step (s : State) : Host.Outcome State Fault Refusal := tick s

/-- `s` with an instruction of `nbits` bits, `w`, stored where `step` fetches next: at PC. It stands for the loader of
20_memory.md R81. IME and FATAL change only where they would keep the next tick from fetching. -/
def State.withFetchWord (s : State) (nbits w : Nat) : State :=
  (s.storeBytes s.pc (tableBytes nbits w)).readyToFetch

end Sys2Proof.Machine
end

