-- ==== Sys2Proof/Machine/Boot.lean ====
section
/-! DEFINITION. Boot with a cartridge image, and the cartridge check (70_reset_and_hazards.md R350, R351). -/

namespace Sys2Proof.Machine

/-- The cartridge check (R351): a cartridge type byte other than 0x00 sets the fatal latch before any tick. -/
def State.checkCartridge (s : State) : State :=
  if s.readByte cartTypeAddr = 0x00#8 then s
  else { s with fatal := some (.unsupportedCartridge cartTypeAddr (s.readByte cartTypeAddr)) }

/-- `Boot(cart, …)` (R350): the reset state, then the image byte for byte from address 0x0000 on, then the check. An
image longer than 65536 bytes is no input of boot (93_implementation_defined.md U9). -/
def boot (cart : List Byte) : Result :=
  if cartMaxBytes < cart.length then .refused (.cartridgeTooLong cart.length)
  else .next ({ State.reset with mem := State.reset.mem.load 0 cart }).checkCartridge

/-- The code of a Fatal kind (60_exceptions.md R317), a label for the diagnostic. -/
def faultCode : Fault → Nat
  | .unknownPrimaryOpcode _ _ => 1
  | .unknownExtendedOpcode _ _ => 2
  | .unsupportedInterrupt _ _ => 3
  | .unsupportedCartridge _ _ => 4

/-- The failing address that a Fatal reports (R317). -/
def faultAddr : Fault → Word
  | .unknownPrimaryOpcode addr _ => addr
  | .unknownExtendedOpcode addr _ => addr
  | .unsupportedInterrupt addr _ => addr
  | .unsupportedCartridge addr _ => addr

/-- The failing value that a Fatal reports (R317). -/
def faultValue : Fault → Byte
  | .unknownPrimaryOpcode _ value => value
  | .unknownExtendedOpcode _ value => value
  | .unsupportedInterrupt _ value => value
  | .unsupportedCartridge _ value => value

end Sys2Proof.Machine
end

