-- ==== Sys2Proof/Safety.lean ====
section
/-! DEFINITION. What a safe run is, in the terms the claims use: the state invariants of 10_state.md R47, the bytes an
instruction stores to, and the numbers of the encoding's fields. -/

namespace Sys2Proof.Machine

/-! ### Invariants -/

/-- R47 (a): bits 3:0 of F are 0 (R23). -/
def State.flagsLowZero (s : State) : Prop := s.f &&& 0x0F#8 = 0#8

/-- R47 (c): `0 ≤ ACC ≤ 455` (R30). -/
def State.accInRange (s : State) : Prop := s.acc ≤ 455

/-- Memory is in canonical form, so every cell is an address of the space (R60) and equal memories are equal data. -/
def State.memCanonical (s : State) : Prop := s.mem.wf = true

/-- The invariants that hold between any two ticks (R47). Its parts (b), (d) and (e) hold by the types of IMEP, PC, SP
and the cells. -/
structure State.Inv (s : State) : Prop where
  flags : s.flagsLowZero
  acc : s.accInRange
  mem : s.memCanonical

/-- ACC counts whole m-cycles (60_exceptions.md R326). -/
def State.accWholeCycles (s : State) : Prop := s.acc % 4 = 0

/-- A run is safe while no tick is Fatal: `n` ticks answer states only. -/
def State.safeFor (s : State) (n : Nat) : Prop := ∃ t, Sys2Proof.core.run n s = .next t

/-! ### Frames -/

/-- Every byte of memory but the ones listed reads as before. -/
def memKeptBut (changed : List Word) (s t : State) : Prop := ∀ x, x ∉ changed → t.readByte x = s.readByte x

/-- What no instruction writes: IME, ACC, FATAL and the last tick's output. -/
def hiddenKept (s t : State) : Prop :=
  t.ime = s.ime ∧ t.acc = s.acc ∧ t.fatal = s.fatal ∧ t.frameReady = s.frameReady

/-- The two bytes a push stores to (20_memory.md R67). -/
def State.stackSlot (s : State) : List Word := [s.sp - 2, s.sp - 2 + 1]

/-- The addresses an instruction stores to when it acts on `s`; the rows that are not listed store nothing. -/
def storedAddrs (i : Instr) (s : State) : List Word :=
  match i with
  | .ldIndBcA => [s.effAddr .indBc]
  | .ldIndA16Sp a16 => [a16, a16 + 1]
  | .ldIndDeA => [s.effAddr .indDe]
  | .ldIndHlIncA => [s.effAddr .indHlInc]
  | .ldIndHlDecA => [s.effAddr .indHlDec]
  | .incIndHl => [s.hl]
  | .decIndHl => [s.hl]
  | .ldIndHlD8 _ => [s.hl]
  | .ldIndHlB => [s.hl]
  | .ldIndHlC => [s.hl]
  | .ldIndHlD => [s.hl]
  | .ldIndHlE => [s.hl]
  | .ldIndHlH => [s.hl]
  | .ldIndHlL => [s.hl]
  | .ldIndHlA => [s.hl]
  | .callNzA16 _ => if s.cond .nz then s.stackSlot else []
  | .pushBc => s.stackSlot
  | .rst00 => s.stackSlot
  | .prefixCb op2 => if fieldX op2 ≠ 1 ∧ fieldZ op2 = 6 then [s.hl] else []
  | .callZA16 _ => if s.cond .z then s.stackSlot else []
  | .callA16 _ => s.stackSlot
  | .rst08 => s.stackSlot
  | .callNcA16 _ => if s.cond .nc then s.stackSlot else []
  | .pushDe => s.stackSlot
  | .rst10 => s.stackSlot
  | .callCA16 _ => if s.cond .c then s.stackSlot else []
  | .rst18 => s.stackSlot
  | .ldhA8A a8 => [s.effAddr (.high a8)]
  | .ldIndCA => [s.effAddr .highC]
  | .pushHl => s.stackSlot
  | .rst20 => s.stackSlot
  | .ldIndA16A a16 => [s.effAddr (.abs a16)]
  | .rst28 => s.stackSlot
  | .pushAf => s.stackSlot
  | .rst30 => s.stackSlot
  | .rst38 => s.stackSlot
  | .rlcIndHl => [s.hl]
  | .rrcIndHl => [s.hl]
  | .rlIndHl => [s.hl]
  | .rrIndHl => [s.hl]
  | .slaIndHl => [s.hl]
  | .sraIndHl => [s.hl]
  | .swapIndHl => [s.hl]
  | .srlIndHl => [s.hl]
  | .res0IndHl => [s.hl]
  | .res1IndHl => [s.hl]
  | .res2IndHl => [s.hl]
  | .res3IndHl => [s.hl]
  | .res4IndHl => [s.hl]
  | .res5IndHl => [s.hl]
  | .res6IndHl => [s.hl]
  | .res7IndHl => [s.hl]
  | .set0IndHl => [s.hl]
  | .set1IndHl => [s.hl]
  | .set2IndHl => [s.hl]
  | .set3IndHl => [s.hl]
  | .set4IndHl => [s.hl]
  | .set5IndHl => [s.hl]
  | .set6IndHl => [s.hl]
  | .set7IndHl => [s.hl]
  | _ => []

/-! ### The instruction at PC -/

/-- The three bytes at PC, the longest instruction. -/
def State.codeBytes (s : State) : List Byte := [s.readByte s.pc, s.readByte (s.pc + 1), s.readByte (s.pc + 2)]

/-- The bytes at PC decode to `i`. -/
def State.decodesAt (s : State) (i : Instr) : Prop := ∃ rest, decode s.codeBytes = .ok (i, rest)

/-- No FATAL is latched and the interrupt check does not pass, so the tick executes an instruction (R310, R311). -/
def State.executes (s : State) : Prop :=
  s.fatal = none ∧ (s.ime = false ∨ s.readByte 0xFF0F#16 &&& s.readByte 0xFFFF#16 = 0#8)

/-- The primary bytes without a table entry (30_encoding.md R102). -/
def bytesWithoutEntry : List Byte :=
  [0x10#8, 0x27#8, 0x76#8, 0xD3#8, 0xDB#8, 0xDD#8, 0xE3#8, 0xE4#8, 0xEB#8, 0xEC#8, 0xED#8, 0xF4#8, 0xFC#8, 0xFD#8]

/-- The instructions that arm the pending-change slot (10_state.md R29). -/
def armingInstrs : List Instr := [.ei, .di, .reti]

/-- The instructions that change SP (10_state.md R27): the ones that push or pop, and the five that name SP. -/
def spInstrs : List Instr :=
  [.pushBc, .pushDe, .pushHl, .pushAf, .popBc, .popDe, .popHl, .popAf] ++
  [.rst00, .rst08, .rst10, .rst18, .rst20, .rst28, .rst30, .rst38] ++
  [.ret, .reti, .retNz, .retZ, .retNc, .retC] ++ [.ldSpHl, .incSp, .decSp]

/-- The instructions with an operand that change SP (R27). -/
def movesSp (i : Instr) : Prop :=
  i ∈ spInstrs ∨ (∃ t, i = .callA16 t) ∨ (∃ cc t, i = callForm cc t) ∨ (∃ v, i = .ldSpD16 v) ∨ (∃ e, i = .addSpE8 e)

/-! ### Numbers of the encoding's fields -/

/-- An opcode byte as a number. -/
def opc (n : Nat) : Byte := BitVec.ofNat 8 n

/-- The register index (30_encoding.md R92). -/
def regNo : Reg → Nat
  | .b => 0
  | .c => 1
  | .d => 2
  | .e => 3
  | .h => 4
  | .l => 5
  | .a => 7

/-- The operand index (R92). -/
def opndNo : Opnd8 → Nat
  | .reg r => regNo r
  | .indHl => 6

/-- The pair index in `rp` (R93). -/
def pairNo : Pair → Nat
  | .bc => 0
  | .de => 1
  | .hl => 2
  | .sp => 3

/-- The pair index in `rp2` (R93). -/
def stackPairNo : StackPair → Nat
  | .bc => 0
  | .de => 1
  | .hl => 2
  | .af => 3

/-- The condition index (R94). -/
def condNo : Cond → Nat
  | .nz => 0
  | .z => 1
  | .nc => 2
  | .c => 3

/-- The ALU operation index (R95). -/
def aluNo : AluOp → Nat
  | .add => 0
  | .adc => 1
  | .sub => 2
  | .sbc => 3
  | .and => 4
  | .xor => 5
  | .or => 6
  | .cp => 7

/-- The index in the extended page's group 0 (R96). -/
def rotNo : RotOp → Nat
  | .rlc => 0
  | .rrc => 1
  | .rl => 2
  | .rr => 3
  | .sla => 4
  | .sra => 5
  | .swap => 6
  | .srl => 7

/-- The bytes decode to `i`, whatever follows them. -/
def bytesAre (bs : List Byte) (i : Instr) : Prop := ∀ rest, decode (bs ++ rest) = .ok (i, rest)

/-- `i` is the accumulator operation `op` on the value `v`, in one of its three operand forms, at cost `n`: the register
form, the `(HL)` form or the `d8` form (43_arith8.md). -/
def accSource (op : AluOp) (i : Instr) (s : State) (v : Byte) (n : Nat) : Prop :=
  (∃ r, i = aluForm op (.reg r) ∧ v = s.reg r ∧ n = 1) ∨ (i = aluForm op .indHl ∧ v = s.readByte s.hl ∧ n = 2) ∨
    (i = aluImmForm op v ∧ n = 2)

/-- The encodings of an accumulator operation's three operand forms (43_arith8.md, R95). -/
def accEncodings (op : AluOp) : Prop :=
  (∀ o, bytesAre [opc (0x80 + 8 * aluNo op + opndNo o)] (aluForm op o)) ∧
    ∀ v, bytesAre [opc (0xC6 + 8 * aluNo op), v] (aluImmForm op v)

/-- What a rotate or shift of the extended page leaves: the operand at `res`, Z from the result, N and H cleared, the
carry at `out`, the cost 2 for a register and 4 for `(HL)` (48_cb_page.md). -/
def shifted (s : State) (o : Opnd8) (res : Nat) (out : Bool) : State :=
  { s.setOperand o (BitVec.ofNat 8 res) with
    f := packFlags (decide (res = 0)) false false out, cost := if o = .indHl then 4 else 2 }

/-- The encodings of a rotate or shift of the extended page (R96). -/
def rotEncodings (op : RotOp) : Prop := ∀ o, bytesAre [0xCB#8, opc (8 * rotNo op + opndNo o)] (rotForm op o)

end Sys2Proof.Machine
end

