-- ==== Sys2Proof/Certificates/Slice0/Obligations.lean ====
section
/-! DEFINITION. The statements for the provers. -/

open Sys2Proof Sys2Proof.Machine

/-! ### Encoding -/

/-- Decoding the bytes of an instruction gives it back, every operand at every value (30_encoding.md R90, R91, R97,
R100, R101). -/
def Obligations.DecodeUndoesEncode : Prop :=
  ∀ (i : Instr) (rest : List Byte), i.wellFormed = true → decode (encode i ++ rest) = .ok (i, rest)

/-- Whatever decodes is the encoding of what it decodes to, and is an instruction by itself: each byte string has one
meaning (R90, R96). -/
def Obligations.EncodeUndoesDecode : Prop :=
  ∀ (bs : List Byte) (i : Instr) (rest : List Byte), decode bs = .ok (i, rest) →
    encode i ++ rest = bs ∧ i.wellFormed = true

/-- Words of the spec's map, one of each family; the first three are the source's own (R100, R101, 95_test_vectors.md
S9). -/
def Obligations.SampleWordsDecode : Prop :=
  bytesAre [0x3E#8, 0x05#8] (.ldAD8 0x05#8) ∧ bytesAre [0x06#8, 0x03#8] (.ldBD8 0x03#8) ∧ bytesAre [0x80#8] .addB ∧
    bytesAre [0x21#8, 0x5B#8, 0x3A#8] (.ldHlD16 0x3A5B#16) ∧ bytesAre [0x29#8] .addHlHl ∧ bytesAre [0x1F#8] .rra ∧
    bytesAre [0xCD#8, 0x34#8, 0x12#8] (.callA16 0x1234#16) ∧ bytesAre [0xFB#8] .ei ∧
    bytesAre [0xCB#8, 0xCB#8] .set1E ∧ bytesAre [0xCB#8, 0x37#8] .swapA ∧ bytesAre [0x76#8] .halt

/-! ### All instructions -/

/-- Every row with a table entry completes in every state and returns a cost of 1 to 6 m-cycles (60_exceptions.md R315,
R324). -/
def Obligations.EveryEntryCompletes : Prop :=
  ∀ (i : Instr) (s : State), i.noEntryByte = none → ∃ t, exec i s = .next t ∧ 1 ≤ t.cost ∧ t.cost ≤ 6

/-- The fourteen rows without a table entry: their byte, and the Fatal with the address it was fetched from
(43_arith8.md R231, 47_system.md R273, R274, R276). -/
def Obligations.RowsWithoutEntryAreFatal : Prop :=
  ∀ p ∈ [(Instr.daa, 0x27#8), (.halt, 0x76#8), (.stop, 0x10#8), (.unassignedD3, 0xD3#8), (.unassignedDB, 0xDB#8),
      (.unassignedDD, 0xDD#8), (.unassignedE3, 0xE3#8), (.unassignedE4, 0xE4#8), (.unassignedEB, 0xEB#8),
      (.unassignedEC, 0xEC#8), (.unassignedED, 0xED#8), (.unassignedF4, 0xF4#8), (.unassignedFC, 0xFC#8),
      (.unassignedFD, 0xFD#8)],
    bytesAre [p.2] p.1 ∧ ∀ s : State, exec p.1 s = .fault (.unknownPrimaryOpcode (s.pc - 1) p.2)

/-- A tick that executes is Fatal exactly on a byte without an entry, and reports that byte and its address
(60_exceptions.md R315, 30_encoding.md R102). -/
def Obligations.TickIsFatalExactlyOnBytesWithoutEntry : Prop :=
  ∀ s : State, s.executes →
    (s.readByte s.pc ∈ bytesWithoutEntry → step s = .fault (.unknownPrimaryOpcode s.pc (s.readByte s.pc))) ∧
      (s.readByte s.pc ∉ bytesWithoutEntry → ∃ t, step s = .next t)

/-- No instruction writes IME, ACC or FATAL (10_state.md R28, R30, R37). -/
def Obligations.NoInstructionWritesImeAccFatal : Prop :=
  ∀ (i : Instr) (s t : State), exec i s = .next t → hiddenKept s t

/-- The pending-change slot is written by EI, DI and RETI alone (10_state.md R29). -/
def Obligations.OnlyEiDiRetiArmTheSlot : Prop :=
  ∀ (i : Instr) (s t : State), exec i s = .next t → i ∉ armingInstrs → t.imep = s.imep

/-- SP is changed by the instructions that push or pop and by the five that name it (10_state.md R27). -/
def Obligations.OnlyNamedInstructionsMoveSp : Prop :=
  ∀ (i : Instr) (s t : State), exec i s = .next t → ¬ movesSp i → t.sp = s.sp

/-- Every instruction leaves every byte of memory it does not store to (20_memory.md R62, R71). -/
def Obligations.InstructionsStoreOnlyTheirBytes : Prop :=
  ∀ (i : Instr) (s t : State), exec i s = .next t → memKeptBut (storedAddrs i s) s t

/-! ### Memory and registers -/

/-- A byte read returns the byte last written there, at every address; a write changes nothing else (20_memory.md R61,
R62). -/
def Obligations.MemoryReadsWhatWasWritten : Prop :=
  ∀ (s : State) (x : Word) (v : Byte), s.memCanonical →
    (s.writeByte x v).readByte x = v ∧ memKeptBut [x] s (s.writeByte x v) ∧ (s.writeByte x v).memCanonical ∧
      { s.writeByte x v with mem := s.mem } = s

/-- Words are little-endian and wrap at 0xFFFF, and a word read returns the word last written there (20_memory.md R63,
R64). -/
def Obligations.WordsAreLittleEndianAndRoundTrip : Prop :=
  ∀ (s : State) (x v : Word), s.memCanonical →
    (s.readWord x).toNat = (s.readByte x).toNat + 256 * (s.readByte (x + 1)).toNat ∧
      ((s.writeWord x v).readByte x).toNat = v.toNat % 256 ∧
      ((s.writeWord x v).readByte (x + 1)).toNat = v.toNat / 256 ∧
      memKeptBut [x, x + 1] s (s.writeWord x v) ∧ (s.writeWord x v).readWord x = v

/-- Memories in canonical form that read the same at every address are the same data (the model's own form of memory,
log entry 6; 10_state.md R31). -/
def Obligations.CanonicalMemoriesAreEqualData : Prop :=
  ∀ m m' : Memory, m.wf = true → m'.wf = true → (∀ x : Word, m.get x.toNat = m'.get x.toNat) → m = m'

/-- A register reads what was written and a write leaves the others; pairs are views with the first letter high; AF
drops bits 3:0 (10_state.md R20, R21, R25). -/
def Obligations.RegistersAndPairsReadBack : Prop :=
  (∀ (s : State) (r : Reg) (v : Byte), (s.setReg r v).reg r = v ∧ (∀ q, q ≠ r → (s.setReg r v).reg q = s.reg q) ∧
      (s.setReg r v).setReg r (s.reg r) = s) ∧
    (∀ s : State, s.bc.toNat = s.b.toNat * 256 + s.c.toNat ∧ s.de.toNat = s.d.toNat * 256 + s.e.toNat ∧
      s.hl.toNat = s.h.toNat * 256 + s.l.toNat ∧ s.af.toNat = s.a.toNat * 256 + s.f.toNat) ∧
    (∀ (s : State) (v : Word), (s.setBc v).bc = v ∧ (s.setDe v).de = v ∧ (s.setHl v).hl = v ∧
      (s.setAf v).af = v &&& 0xFFF0#16)

/-- The flags' places in F, its zero low nibble, what `ApplyFlags` leaves, and the four conditions (10_state.md R22,
R24, 46_control.md R261). -/
def Obligations.FlagsSitInBits7To4 : Prop :=
  (∀ (s : State) (r : FlagRec), (s.applyFlags r).flagsLowZero ∧ (s.applyFlags r).flagZ = r.z.getD s.flagZ ∧
      (s.applyFlags r).flagN = r.n.getD s.flagN ∧ (s.applyFlags r).flagH = r.h.getD s.flagH ∧
      (s.applyFlags r).flagC = r.c.getD s.flagC ∧ { s.applyFlags r with f := s.f } = s) ∧
    (∀ s : State, (s.flagZ = true ↔ s.f.toNat / 128 % 2 = 1) ∧ (s.flagN = true ↔ s.f.toNat / 64 % 2 = 1) ∧
      (s.flagH = true ↔ s.f.toNat / 32 % 2 = 1) ∧ (s.flagC = true ↔ s.f.toNat / 16 % 2 = 1)) ∧
    (∀ s : State, (s.cond .nz = true ↔ s.f.toNat / 128 % 2 = 0) ∧ (s.cond .z = true ↔ s.f.toNat / 128 % 2 = 1) ∧
      (s.cond .nc = true ↔ s.f.toNat / 16 % 2 = 0) ∧ (s.cond .c = true ↔ s.f.toNat / 16 % 2 = 1))

/-! ### 8-bit loads -/

/-- `LD r,r'`, `LD r,(HL)`, `LD (HL),r` (41_load8.md R150, R152, R153). -/
def Obligations.LoadsCopyOneByte : Prop :=
  (∀ x o, ¬ (x = .indHl ∧ o = .indHl) → bytesAre [opc (0x40 + 8 * opndNo x + opndNo o)] (ldForm x o)) ∧
    (∀ r q s, exec (ldForm (.reg r) (.reg q)) s = .next { s.setReg r (s.reg q) with cost := 1 }) ∧
    (∀ r s, exec (ldForm (.reg r) .indHl) s = .next { s.setReg r (s.readByte s.hl) with cost := 2 }) ∧
    (∀ r s, exec (ldForm .indHl (.reg r)) s = .next { s.writeByte s.hl (s.reg r) with cost := 2 })

/-- `LD r,d8` and `LD (HL),d8` (41_load8.md R151, R154). -/
def Obligations.LoadsTakeAnImmediateByte : Prop :=
  (∀ o v, bytesAre [opc (0x06 + 8 * opndNo o), v] (ldImmForm o v)) ∧
    (∀ r v s, exec (ldImmForm (.reg r) v) s = .next { s.setReg r v with cost := 2 }) ∧
    (∀ v s, exec (ldImmForm .indHl v) s = .next { s.writeByte s.hl v with cost := 3 })

/-- `LD A,(BC)`, `LD A,(DE)`, `LD A,(a16)`, `LDH A,(a8)`, `LD A,(C)` and the stores of A there (41_load8.md R155 to
R164). -/
def Obligations.AccumulatorMovesToAndFromMemory : Prop :=
  (bytesAre [0x0A#8] .ldAIndBc ∧ bytesAre [0x1A#8] .ldAIndDe ∧ bytesAre [0x02#8] .ldIndBcA ∧ bytesAre [0x12#8] .ldIndDeA ∧
      (∀ lo hi, bytesAre [0xFA#8, lo, hi] (.ldAIndA16 (wordOf hi lo))) ∧
      (∀ lo hi, bytesAre [0xEA#8, lo, hi] (.ldIndA16A (wordOf hi lo))) ∧ (∀ v, bytesAre [0xF0#8, v] (.ldhAA8 v)) ∧
      (∀ v, bytesAre [0xE0#8, v] (.ldhA8A v)) ∧ bytesAre [0xF2#8] .ldAIndC ∧ bytesAre [0xE2#8] .ldIndCA) ∧
    ∀ (s : State) (x : Word) (v : Byte),
      exec .ldAIndBc s = .next { s with a := s.readByte s.bc, cost := 2 } ∧
      exec .ldAIndDe s = .next { s with a := s.readByte s.de, cost := 2 } ∧
      exec .ldIndBcA s = .next { s.writeByte s.bc s.a with cost := 2 } ∧
      exec .ldIndDeA s = .next { s.writeByte s.de s.a with cost := 2 } ∧
      exec (.ldAIndA16 x) s = .next { s with a := s.readByte x, cost := 4 } ∧
      exec (.ldIndA16A x) s = .next { s.writeByte x s.a with cost := 4 } ∧
      exec (.ldhAA8 v) s = .next { s with a := s.readByte (BitVec.ofNat 16 (0xFF00 + v.toNat)), cost := 3 } ∧
      exec (.ldhA8A v) s = .next { s.writeByte (BitVec.ofNat 16 (0xFF00 + v.toNat)) s.a with cost := 3 } ∧
      exec .ldAIndC s = .next { s with a := s.readByte (BitVec.ofNat 16 (0xFF00 + s.c.toNat)), cost := 2 } ∧
      exec .ldIndCA s = .next { s.writeByte (BitVec.ofNat 16 (0xFF00 + s.c.toNat)) s.a with cost := 2 }

/-- `LD (HL+),A`, `LD A,(HL+)`, `LD (HL-),A`, `LD A,(HL-)`: the access is at the old HL, which then steps modulo 65536
(41_load8.md R165 to R168). -/
def Obligations.AccumulatorMovesStepHl : Prop :=
  (bytesAre [0x22#8] .ldIndHlIncA ∧ bytesAre [0x2A#8] .ldAIndHlInc ∧ bytesAre [0x32#8] .ldIndHlDecA ∧
      bytesAre [0x3A#8] .ldAIndHlDec) ∧
    ∀ s : State,
      exec .ldIndHlIncA s =
        .next { (s.writeByte s.hl s.a).setHl (BitVec.ofNat 16 ((s.hl.toNat + 1) % 65536)) with cost := 2 } ∧
      exec .ldAIndHlInc s =
        .next { s.setHl (BitVec.ofNat 16 ((s.hl.toNat + 1) % 65536)) with a := s.readByte s.hl, cost := 2 } ∧
      exec .ldIndHlDecA s =
        .next { (s.writeByte s.hl s.a).setHl (BitVec.ofNat 16 ((s.hl.toNat + 65535) % 65536)) with cost := 2 } ∧
      exec .ldAIndHlDec s =
        .next { s.setHl (BitVec.ofNat 16 ((s.hl.toNat + 65535) % 65536)) with a := s.readByte s.hl, cost := 2 }

/-! ### 16-bit loads and the stack -/

/-- `LD rr,d16` and `LD SP,HL` (42_load16_stack.md R180, R182). -/
def Obligations.PairsAndSpAreLoaded : Prop :=
  (∀ p lo hi, bytesAre [opc (0x01 + 16 * pairNo p), lo, hi] (ldPairForm p (wordOf hi lo))) ∧ bytesAre [0xF9#8] .ldSpHl ∧
    (∀ hi lo s, exec (ldPairForm .bc (wordOf hi lo)) s = .next { s with b := hi, c := lo, cost := 3 }) ∧
    (∀ hi lo s, exec (ldPairForm .de (wordOf hi lo)) s = .next { s with d := hi, e := lo, cost := 3 }) ∧
    (∀ hi lo s, exec (ldPairForm .hl (wordOf hi lo)) s = .next { s with h := hi, l := lo, cost := 3 }) ∧
    (∀ v s, exec (ldPairForm .sp v) s = .next { s with sp := v, cost := 3 }) ∧
    (∀ s, exec .ldSpHl s = .next { s with sp := wordOf s.h s.l, cost := 2 })

/-- `LD (a16),SP`: low byte at `a16`, high byte at `a16 + 1` modulo 65536 (42_load16_stack.md R181). -/
def Obligations.SpIsStoredLittleEndian : Prop :=
  (∀ lo hi, bytesAre [0x08#8, lo, hi] (.ldIndA16Sp (wordOf hi lo))) ∧
    ∀ (s : State) (x : Word),
      exec (.ldIndA16Sp x) s =
        .next { (s.writeByte x (BitVec.ofNat 8 (s.sp.toNat % 256))).writeByte (BitVec.ofNat 16 ((x.toNat + 1) % 65536))
          (BitVec.ofNat 8 (s.sp.toNat / 256)) with cost := 5 }

/-- `LD HL,SP+e8` and `ADD SP,e8`: a signed displacement, with the carries of the unsigned low byte (40_alu.md R140,
42_load16_stack.md R183, 44_arith16.md R238). -/
def Obligations.SpPlusDisplacement : Prop :=
  (∀ e, bytesAre [0xF8#8, e] (.ldHlSpE8 e)) ∧ (∀ e, bytesAre [0xE8#8, e] (.addSpE8 e)) ∧
    ∀ (s : State) (e : Byte),
      exec (.ldHlSpE8 e) s = .next { s.setHl (BitVec.ofInt 16 (s.sp.toNat + e.toInt)) with
        f := packFlags false false (decide (s.sp.toNat % 16 + e.toNat % 16 > 15)) (decide (s.sp.toNat % 256 + e.toNat > 255)),
        cost := 3 } ∧
      exec (.addSpE8 e) s = .next { s with
        sp := BitVec.ofInt 16 (s.sp.toNat + e.toInt),
        f := packFlags false false (decide (s.sp.toNat % 16 + e.toNat % 16 > 15)) (decide (s.sp.toNat % 256 + e.toNat > 255)),
        cost := 4 }

/-- `PUSH rr` and `PUSH AF`: SP falls by 2 modulo 65536, the low register goes to the new SP and the high one above it,
and nothing else changes (20_memory.md R67, 42_load16_stack.md R184, R185). -/
def Obligations.PushStoresThePairBelowSp : Prop :=
  (∀ p, bytesAre [opc (0xC5 + 16 * stackPairNo p)] (pushForm p)) ∧
    ∀ (p : StackPair) (s : State), s.memCanonical → ∃ t, exec (pushForm p) s = .next t ∧
      t.sp = BitVec.ofNat 16 ((s.sp.toNat + 65534) % 65536) ∧
      (t.readByte t.sp).toNat = (s.stackPair p).toNat % 256 ∧
      (t.readByte (t.sp + 1)).toNat = (s.stackPair p).toNat / 256 ∧
      memKeptBut [t.sp, t.sp + 1] s t ∧ t = { s with sp := t.sp, mem := t.mem, cost := 4 }

/-- `POP rr` and `POP AF`: the word at SP, low byte first; SP rises by 2 modulo 65536; F takes bits 7:4 of the popped
low byte (20_memory.md R68, 42_load16_stack.md R186, R187). -/
def Obligations.PopLoadsThePairAtSp : Prop :=
  (∀ p, bytesAre [opc (0xC1 + 16 * stackPairNo p)] (popForm p)) ∧
    ∀ s : State,
      exec .popBc s = .next { s with
        c := s.readByte s.sp, b := s.readByte (s.sp + 1),
        sp := BitVec.ofNat 16 ((s.sp.toNat + 2) % 65536), cost := 3 } ∧
      exec .popDe s = .next { s with
        e := s.readByte s.sp, d := s.readByte (s.sp + 1),
        sp := BitVec.ofNat 16 ((s.sp.toNat + 2) % 65536), cost := 3 } ∧
      exec .popHl s = .next { s with
        l := s.readByte s.sp, h := s.readByte (s.sp + 1),
        sp := BitVec.ofNat 16 ((s.sp.toNat + 2) % 65536), cost := 3 } ∧
      exec .popAf s = .next { s with
        f := BitVec.ofNat 8 ((s.readByte s.sp).toNat / 16 * 16), a := s.readByte (s.sp + 1),
        sp := BitVec.ofNat 16 ((s.sp.toNat + 2) % 65536), cost := 3 }

/-- A pair that is pushed and then popped has its value back, and SP too (20_memory.md R68). -/
def Obligations.PushThenPopRestoresPairAndSp : Prop :=
  ∀ (p : StackPair) (s t : State), s.Inv → exec (pushForm p) s = .next t →
    exec (popForm p) t = .next { s with mem := t.mem, cost := 3 }

/-! ### 8-bit arithmetic and logic -/

/-- `ADD A,r`, `ADD A,(HL)`, `ADD A,d8` (40_alu.md R111, 43_arith8.md R200 to R202). -/
def Obligations.AddSetsAccumulatorAndFlags : Prop :=
  accEncodings .add ∧ ∀ (i : Instr) (s : State) (v : Byte) (n : Nat), accSource .add i s v n →
    exec i s = .next { s with
      a := BitVec.ofNat 8 ((s.a.toNat + v.toNat) % 256),
      f := packFlags (decide ((s.a.toNat + v.toNat) % 256 = 0)) false (decide (s.a.toNat % 16 + v.toNat % 16 > 15))
        (decide (s.a.toNat + v.toNat > 255)),
      cost := n }

/-- `ADC A,r`, `ADC A,(HL)`, `ADC A,d8` (40_alu.md R112, 43_arith8.md R203 to R205). -/
def Obligations.AdcSetsAccumulatorAndFlags : Prop :=
  accEncodings .adc ∧ ∀ (i : Instr) (s : State) (v : Byte) (n : Nat), accSource .adc i s v n →
    exec i s = .next { s with
      a := BitVec.ofNat 8 ((s.a.toNat + v.toNat + s.flagC.toNat) % 256),
      f := packFlags (decide ((s.a.toNat + v.toNat + s.flagC.toNat) % 256 = 0)) false
        (decide (s.a.toNat % 16 + v.toNat % 16 + s.flagC.toNat > 15))
        (decide (s.a.toNat + v.toNat + s.flagC.toNat > 255)),
      cost := n }

/-- `SUB r`, `SUB (HL)`, `SUB d8` (40_alu.md R113, 43_arith8.md R206 to R208). -/
def Obligations.SubSetsAccumulatorAndFlags : Prop :=
  accEncodings .sub ∧ ∀ (i : Instr) (s : State) (v : Byte) (n : Nat), accSource .sub i s v n →
    exec i s = .next { s with
      a := BitVec.ofNat 8 ((s.a.toNat + 256 - v.toNat) % 256),
      f := packFlags (decide ((s.a.toNat + 256 - v.toNat) % 256 = 0)) true (decide (s.a.toNat % 16 < v.toNat % 16))
        (decide (s.a.toNat < v.toNat)),
      cost := n }

/-- `SBC A,r`, `SBC A,(HL)`, `SBC A,d8` (40_alu.md R114, 43_arith8.md R209 to R211). -/
def Obligations.SbcSetsAccumulatorAndFlags : Prop :=
  accEncodings .sbc ∧ ∀ (i : Instr) (s : State) (v : Byte) (n : Nat), accSource .sbc i s v n →
    exec i s = .next { s with
      a := BitVec.ofNat 8 ((s.a.toNat + 512 - v.toNat - s.flagC.toNat) % 256),
      f := packFlags (decide ((s.a.toNat + 512 - v.toNat - s.flagC.toNat) % 256 = 0)) true
        (decide (s.a.toNat % 16 < v.toNat % 16 + s.flagC.toNat)) (decide (s.a.toNat < v.toNat + s.flagC.toNat)),
      cost := n }

/-- AND, XOR and OR in their three operand forms: AND sets H and clears C, XOR and OR clear both (40_alu.md R115 to
R117, 43_arith8.md R212 to R220). -/
def Obligations.LogicSetsAccumulatorAndFlags : Prop :=
  (accEncodings .and ∧ accEncodings .xor ∧ accEncodings .or) ∧ ∀ (i : Instr) (s : State) (v : Byte) (n : Nat),
    (accSource .and i s v n → exec i s = .next { s with
      a := s.a &&& v, f := packFlags (decide (s.a &&& v = 0#8)) false true false, cost := n }) ∧
    (accSource .xor i s v n → exec i s = .next { s with
      a := s.a ^^^ v, f := packFlags (decide (s.a = v)) false false false, cost := n }) ∧
    (accSource .or i s v n → exec i s = .next { s with
      a := s.a ||| v, f := packFlags (decide (s.a = 0#8 ∧ v = 0#8)) false false false, cost := n })

/-- `CP r`, `CP (HL)`, `CP d8`: SUB's flags, A kept (40_alu.md R118, 43_arith8.md R221 to R223). -/
def Obligations.CompareSetsFlagsAndKeepsAccumulator : Prop :=
  accEncodings .cp ∧ ∀ (i : Instr) (s : State) (v : Byte) (n : Nat), accSource .cp i s v n →
    exec i s = .next { s with
      f := packFlags (decide (s.a = v)) true (decide (s.a.toNat % 16 < v.toNat % 16)) (decide (s.a.toNat < v.toNat)),
      cost := n }

/-- `INC r`, `INC (HL)`, `DEC r`, `DEC (HL)`: Z, N and H are written, C is kept (40_alu.md R119, R120, 43_arith8.md R224
to R227). -/
def Obligations.IncAndDecKeepCarry : Prop :=
  (∀ o, bytesAre [opc (0x04 + 8 * opndNo o)] (incForm o)) ∧ (∀ o, bytesAre [opc (0x05 + 8 * opndNo o)] (decForm o)) ∧
    ∀ (o : Opnd8) (s : State),
      exec (incForm o) s = .next { s.setOperand o (BitVec.ofNat 8 (((s.operand o).toNat + 1) % 256)) with
        f := packFlags (decide ((s.operand o).toNat = 255)) false (decide ((s.operand o).toNat % 16 = 15)) s.flagC,
        cost := if o = .indHl then 3 else 1 } ∧
      exec (decForm o) s = .next { s.setOperand o (BitVec.ofNat 8 (((s.operand o).toNat + 255) % 256)) with
        f := packFlags (decide ((s.operand o).toNat = 1)) true (decide ((s.operand o).toNat % 16 = 0)) s.flagC,
        cost := if o = .indHl then 3 else 1 }

/-- `CPL`, `SCF`, `CCF` (40_alu.md R137 to R139, 43_arith8.md R228 to R230). -/
def Obligations.ComplementAndCarryInstructions : Prop :=
  (bytesAre [0x2F#8] .cpl ∧ bytesAre [0x37#8] .scf ∧ bytesAre [0x3F#8] .ccf) ∧
    ∀ s : State,
      exec .cpl s = .next { s with
        a := BitVec.ofNat 8 (255 - s.a.toNat), f := packFlags s.flagZ true true s.flagC, cost := 1 } ∧
      exec .scf s = .next { s with f := packFlags s.flagZ false false true, cost := 1 } ∧
      exec .ccf s = .next { s with f := packFlags s.flagZ false false (!s.flagC), cost := 1 }

/-! ### 16-bit arithmetic -/

/-- `ADD HL,rr`: H from bit 11, C from bit 15, Z kept (40_alu.md R121, 44_arith16.md R235). -/
def Obligations.AddHlUsesBit11AndKeepsZero : Prop :=
  (∀ p, bytesAre [opc (0x09 + 16 * pairNo p)] (addHlForm p)) ∧
    ∀ (p : Pair) (s : State), exec (addHlForm p) s =
      .next { s.setHl (BitVec.ofNat 16 ((s.hl.toNat + (s.pair p).toNat) % 65536)) with
        f := packFlags s.flagZ false (decide (s.hl.toNat % 4096 + (s.pair p).toNat % 4096 > 4095))
          (decide (s.hl.toNat + (s.pair p).toNat > 65535)),
        cost := 2 }

/-- `INC rr`, `DEC rr`: modulo 65536, no flag (44_arith16.md R236, R237). -/
def Obligations.IncAndDecPairTouchNoFlag : Prop :=
  (∀ p, bytesAre [opc (0x03 + 16 * pairNo p)] (incPairForm p)) ∧ (∀ p, bytesAre [opc (0x0B + 16 * pairNo p)] (decPairForm p)) ∧
    ∀ (p : Pair) (s : State),
      exec (incPairForm p) s = .next { s.setPair p (BitVec.ofNat 16 (((s.pair p).toNat + 1) % 65536)) with cost := 2 } ∧
      exec (decPairForm p) s = .next { s.setPair p (BitVec.ofNat 16 (((s.pair p).toNat + 65535) % 65536)) with cost := 2 }

/-! ### Accumulator rotates -/

/-- `RLCA`, `RRCA`, `RLA`, `RRA`: Z, N and H cleared whatever the result, C the bit shifted out (40_alu.md R125, R126,
R135, R136, 45_rotate_acc.md R240 to R243). -/
def Obligations.AccumulatorRotatesClearZero : Prop :=
  (bytesAre [0x07#8] .rlca ∧ bytesAre [0x0F#8] .rrca ∧ bytesAre [0x17#8] .rla ∧ bytesAre [0x1F#8] .rra) ∧
    ∀ s : State,
      exec .rlca s = .next { s with
        a := BitVec.ofNat 8 (s.a.toNat * 2 % 256 + s.a.toNat / 128),
        f := packFlags false false false (decide (s.a.toNat / 128 = 1)), cost := 1 } ∧
      exec .rrca s = .next { s with
        a := BitVec.ofNat 8 (s.a.toNat / 2 + s.a.toNat % 2 * 128),
        f := packFlags false false false (decide (s.a.toNat % 2 = 1)), cost := 1 } ∧
      exec .rla s = .next { s with
        a := BitVec.ofNat 8 (s.a.toNat * 2 % 256 + s.flagC.toNat),
        f := packFlags false false false (decide (s.a.toNat / 128 = 1)), cost := 1 } ∧
      exec .rra s = .next { s with
        a := BitVec.ofNat 8 (s.a.toNat / 2 + s.flagC.toNat * 128),
        f := packFlags false false false (decide (s.a.toNat % 2 = 1)), cost := 1 }

/-- The two rotate families agree on A and the carry and differ in Z (40_alu.md R141). -/
def Obligations.RotateFamiliesDifferInZero : Prop :=
  ∀ q ∈ [(Instr.rlca, Instr.rlcA), (.rrca, .rrcA), (.rla, .rlA), (.rra, .rrA)], ∀ s : State,
    ∃ t u, exec q.1 s = .next t ∧ exec q.2 s = .next u ∧ t.a = u.a ∧ t.flagC = u.flagC ∧ t.flagZ = false ∧
      u.flagZ = decide (u.a = 0#8)

/-! ### Control transfer -/

/-- `JP a16`, `JP cc,a16`, `JP HL` (46_control.md R250 to R252). -/
def Obligations.AbsoluteJumps : Prop :=
  ((∀ lo hi, bytesAre [0xC3#8, lo, hi] (.jpA16 (wordOf hi lo))) ∧
      (∀ cc lo hi, bytesAre [opc (0xC2 + 8 * condNo cc), lo, hi] (jpForm cc (wordOf hi lo))) ∧ bytesAre [0xE9#8] .jpHl) ∧
    ∀ (s : State) (cc : Cond) (x : Word),
      exec (.jpA16 x) s = .next { s with pc := x, cost := 4 } ∧
      (s.cond cc = true → exec (jpForm cc x) s = .next { s with pc := x, cost := 4 }) ∧
      (s.cond cc = false → exec (jpForm cc x) s = .next { s with cost := 3 }) ∧
      exec .jpHl s = .next { s with pc := wordOf s.h s.l, cost := 1 }

/-- `JR e8`, `JR cc,e8`: the displacement is signed and added to the next instruction's address, modulo 65536
(46_control.md R253, R254). -/
def Obligations.RelativeJumps : Prop :=
  ((∀ e, bytesAre [0x18#8, e] (.jrE8 e)) ∧ (∀ cc e, bytesAre [opc (0x20 + 8 * condNo cc), e] (jrForm cc e))) ∧
    ∀ (s : State) (cc : Cond) (e : Byte),
      exec (.jrE8 e) s = .next { s with pc := BitVec.ofInt 16 (s.pc.toNat + e.toInt), cost := 3 } ∧
      (s.cond cc = true → exec (jrForm cc e) s = .next { s with pc := BitVec.ofInt 16 (s.pc.toNat + e.toInt), cost := 3 }) ∧
      (s.cond cc = false → exec (jrForm cc e) s = .next { s with cost := 2 })

/-- `CALL a16`, `CALL cc,a16`, `RST t`: the address of the next instruction is pushed, then PC is the target
(46_control.md R255, R256, R260, 30_encoding.md R98). -/
def Obligations.CallsAndRestartsPushPc : Prop :=
  ((∀ lo hi, bytesAre [0xCD#8, lo, hi] (.callA16 (wordOf hi lo))) ∧
      (∀ cc lo hi, bytesAre [opc (0xC4 + 8 * condNo cc), lo, hi] (callForm cc (wordOf hi lo))) ∧
      (∀ n : BitNo, bytesAre [opc (0xC7 + 8 * n.toNat)] (rstForm n))) ∧
    ∀ (s : State) (cc : Cond) (x : Word) (n : BitNo),
      exec (.callA16 x) s = .next { s.push16 s.pc with pc := x, cost := 6 } ∧
      (s.cond cc = true → exec (callForm cc x) s = .next { s.push16 s.pc with pc := x, cost := 6 }) ∧
      (s.cond cc = false → exec (callForm cc x) s = .next { s with cost := 3 }) ∧
      exec (rstForm n) s = .next { s.push16 s.pc with pc := BitVec.ofNat 16 (8 * n.toNat), cost := 4 }

/-- `RET`, `RET cc`, `RETI`: PC is the popped word, low byte first; RETI arms IME (46_control.md R257 to R259). -/
def Obligations.ReturnsPopPc : Prop :=
  (bytesAre [0xC9#8] .ret ∧ (∀ cc, bytesAre [opc (0xC0 + 8 * condNo cc)] (retForm cc)) ∧ bytesAre [0xD9#8] .reti) ∧
    ∀ (s : State) (cc : Cond),
      exec .ret s = .next { s with pc := wordOf (s.readByte (s.sp + 1)) (s.readByte s.sp), sp := s.sp + 2, cost := 4 } ∧
      (s.cond cc = true → exec (retForm cc) s =
        .next { s with pc := wordOf (s.readByte (s.sp + 1)) (s.readByte s.sp), sp := s.sp + 2, cost := 5 }) ∧
      (s.cond cc = false → exec (retForm cc) s = .next { s with cost := 2 }) ∧
      exec .reti s = .next { s with
        pc := wordOf (s.readByte (s.sp + 1)) (s.readByte s.sp), sp := s.sp + 2, imep := .armed true .two, cost := 4 }

/-- A RET right after a CALL or an RST comes back to the instruction after it, with SP as it was (46_control.md R255,
R257, R260). -/
def Obligations.ReturnUndoesCall : Prop :=
  ∀ (i : Instr) (s t : State), s.memCanonical → ((∃ x, i = .callA16 x) ∨ ∃ n, i = rstForm n) → exec i s = .next t →
    exec .ret t = .next { s with mem := t.mem, cost := 4 }

/-! ### System -/

/-- `NOP`, `DI`, `EI`: the last two arm the slot and leave IME (47_system.md R270 to R272, 60_exceptions.md R316). -/
def Obligations.NopDiEi : Prop :=
  (bytesAre [0x00#8] .nop ∧ bytesAre [0xF3#8] .di ∧ bytesAre [0xFB#8] .ei) ∧
    ∀ s : State,
      exec .nop s = .next { s with cost := 1 } ∧
      exec .di s = .next { s with imep := .armed false .two, cost := 1 } ∧
      exec .ei s = .next { s with imep := .armed true .two, cost := 1 }

/-- The prefix runs the extended table's entry for the second byte, and so do the two bytes when they are decoded
(47_system.md R275). -/
def Obligations.PrefixRunsTheExtendedTable : Prop :=
  (∀ op2 : Byte, bytesAre [0xCB#8, op2] (extended op2)) ∧
    ∀ (op2 : Byte) (s : State), exec (.prefixCb op2) s = exec (extended op2) s ∧ ∃ t, exec (.prefixCb op2) s = .next t

/-! ### The extended page -/

/-- RLC, RL, SLA and SWAP, register and `(HL)` forms (40_alu.md R122 to R124, R130, 48_cb_page.md R280, R281, R284, R285,
R288, R289, R292, R293). -/
def Obligations.ExtendedLeftShiftsAndSwap : Prop :=
  (rotEncodings .rlc ∧ rotEncodings .rl ∧ rotEncodings .sla ∧ rotEncodings .swap) ∧
    ∀ (o : Opnd8) (s : State), let v := (s.operand o).toNat
      exec (rotForm .rlc o) s = .next (shifted s o (v * 2 % 256 + v / 128) (decide (v / 128 = 1))) ∧
      exec (rotForm .rl o) s = .next (shifted s o (v * 2 % 256 + s.flagC.toNat) (decide (v / 128 = 1))) ∧
      exec (rotForm .sla o) s = .next (shifted s o (v * 2 % 256) (decide (v / 128 = 1))) ∧
      exec (rotForm .swap o) s = .next (shifted s o (v % 16 * 16 + v / 16) false)

/-- RRC, RR, SRA and SRL, register and `(HL)` forms (40_alu.md R129, R131 to R133, 48_cb_page.md R282, R283, R286, R287,
R290, R291, R294, R295). -/
def Obligations.ExtendedRightShifts : Prop :=
  (rotEncodings .rrc ∧ rotEncodings .rr ∧ rotEncodings .sra ∧ rotEncodings .srl) ∧
    ∀ (o : Opnd8) (s : State), let v := (s.operand o).toNat
      exec (rotForm .rrc o) s = .next (shifted s o (v / 2 + v % 2 * 128) (decide (v % 2 = 1))) ∧
      exec (rotForm .rr o) s = .next (shifted s o (v / 2 + s.flagC.toNat * 128) (decide (v % 2 = 1))) ∧
      exec (rotForm .sra o) s = .next (shifted s o (v / 2 + v / 128 * 128) (decide (v % 2 = 1))) ∧
      exec (rotForm .srl o) s = .next (shifted s o (v / 2) (decide (v % 2 = 1)))

/-- `BIT b,r` and `BIT b,(HL)`: Z is the complement of the bit, C is kept, nothing else is written (40_alu.md R127,
48_cb_page.md R296, R297). -/
def Obligations.BitTestsWriteFlagsOnly : Prop :=
  (∀ (n : BitNo) o, bytesAre [0xCB#8, opc (0x40 + 8 * n.toNat + opndNo o)] (bitForm n o)) ∧
    ∀ (n : BitNo) (o : Opnd8) (s : State), exec (bitForm n o) s = .next { s with
      f := packFlags (decide ((s.operand o).toNat / 2 ^ n.toNat % 2 = 0)) false true s.flagC,
      cost := if o = .indHl then 3 else 2 }

/-- `RES b` and `SET b` write that one bit of the operand and no flag (40_alu.md R128, R134, 48_cb_page.md R298 to
R301). -/
def Obligations.ResAndSetWriteOneBit : Prop :=
  (∀ (n : BitNo) o, bytesAre [0xCB#8, opc (0x80 + 8 * n.toNat + opndNo o)] (resForm n o)) ∧
    (∀ (n : BitNo) o, bytesAre [0xCB#8, opc (0xC0 + 8 * n.toNat + opndNo o)] (setForm n o)) ∧
    ∀ (n : BitNo) (o : Opnd8) (s : State), ∃ w u : Byte,
      exec (resForm n o) s = .next { s.setOperand o w with cost := if o = .indHl then 4 else 2 } ∧
      exec (setForm n o) s = .next { s.setOperand o u with cost := if o = .indHl then 4 else 2 } ∧
      ∀ k, k < 8 → w.getLsbD k = (if k = n.toNat then false else (s.operand o).getLsbD k) ∧
        u.getLsbD k = (if k = n.toNat then true else (s.operand o).getLsbD k)

/-! ### The tick -/

/-- A tick that executes advances the IME delay, moves PC past the instruction's bytes, runs the decoded instruction and
ends with the DTU tick of its cost (60_exceptions.md R310, R315, 30_encoding.md R99). -/
def Obligations.StepRunsTheDecodedInstruction : Prop :=
  ∀ (s : State) (i : Instr), s.executes → s.decodesAt i →
    (∀ t, exec i { s.advanceImeDelay with pc := s.pc + BitVec.ofNat 16 i.length } = .next t →
      step s = .next (dtuTick t.cost t)) ∧
    (∀ f, exec i { s.advanceImeDelay with pc := s.pc + BitVec.ofNat 16 i.length } = .fault f → step s = .fault f)

/-- Interrupt dispatch: IME falls, PC is pushed and goes to 0x0040, IF bit 0 is cleared under the open parameter only,
nothing else changes, and the tick costs 5 (60_exceptions.md R311, R312). -/
def Obligations.VBlankDispatch : Prop :=
  ∀ s : State, s.fatal = none → s.ime = true → (s.readByte 0xFF0F#16 &&& s.readByte 0xFFFF#16).getLsbD 0 = true →
    step s = .next (dtuTick 5 { (if Config.dispatchClearsIf = true
        then s.writeByte 0xFF0F#16 (s.readByte 0xFF0F#16 &&& 0xFE#8) else s).push16 s.pc with
      ime := false, pc := 0x0040#16, cost := 5 })

/-- A pending and enabled interrupt whose lowest bit is not bit 0 is Fatal when IME is true (60_exceptions.md R313). -/
def Obligations.UnsupportedInterruptIsFatal : Prop :=
  ∀ s : State, s.fatal = none → s.ime = true → s.readByte 0xFF0F#16 &&& s.readByte 0xFFFF#16 ≠ 0#8 →
    (s.readByte 0xFF0F#16 &&& s.readByte 0xFFFF#16).getLsbD 0 = false →
    step s = .fault (.unsupportedInterrupt s.pc (s.readByte 0xFF0F#16 &&& s.readByte 0xFFFF#16))

/-- The IME-delay transition table for the ticks that execute; the advance comes before the instruction arms
(60_exceptions.md R314, R316). -/
def Obligations.ImeDelayTransitions : Prop :=
  ∀ (s t : State) (i : Instr), s.executes → s.decodesAt i → step s = .next t →
    (s.imep = .idle → t.ime = s.ime) ∧ (∀ x, s.imep = .armed x .two → t.ime = s.ime) ∧
    (∀ x, s.imep = .armed x .one → t.ime = x) ∧
    (i ∉ armingInstrs → (s.imep = .idle → t.imep = .idle) ∧ (∀ x, s.imep = .armed x .two → t.imep = .armed x .one) ∧
      (∀ x, s.imep = .armed x .one → t.imep = .idle)) ∧
    (i = .ei ∨ i = .reti → t.imep = .armed true .two) ∧ (i = .di → t.imep = .armed false .two)

/-- Interrupt-enable latency: where IME is false and no earlier enabling falls due in that very tick, an EI is followed by
one instruction with IME false, and IME is true after the second, whichever two instructions follow that do not arm the
slot (70_reset_and_hazards.md R355). -/
def Obligations.EnableTakesEffectTwoTicksLater : Prop :=
  ∀ (s0 s1 s2 s3 : State) (i j : Instr), s0.ime = false → s0.imep ≠ .armed true .one → s0.decodesAt .ei →
    step s0 = .next s1 → s1.decodesAt i → i ∉ armingInstrs → step s1 = .next s2 → s2.decodesAt j → j ∉ armingInstrs →
    step s2 = .next s3 → s1.ime = false ∧ s2.ime = false ∧ s3.ime = true ∧ s3.imep = .idle

/-- Once FATAL is set no tick is taken, and no tick sets it and goes on (10_state.md R37, 60_exceptions.md R318). -/
def Obligations.FatalIsAbsorbing : Prop :=
  (∀ (s : State) (f : Fault), s.fatal = some f → step s = .fault f) ∧
    ∀ s t : State, step s = .next t → s.fatal = none ∧ t.fatal = none

/-! ### Invariants -/

/-- Every step keeps the state invariants, and ACC a whole number of m-cycles (10_state.md R47, 60_exceptions.md
R326). -/
def Obligations.StepKeepsStateInvariants : Prop :=
  ∀ s t : State, s.Inv → step s = .next t → t.Inv ∧ (s.accWholeCycles → t.accWholeCycles)

/-- The reset state meets the invariants; IME false, IMEP Idle and ACC 0 (10_state.md R43, R44); IF, IE and LY read 0
and LCDC has its enable bit, which are the model's choice of `IO_DEFAULTS` (log entry 3). -/
def Obligations.ResetMeetsStateInvariants : Prop :=
  State.reset.Inv ∧ State.reset.accWholeCycles ∧ State.reset.ime = false ∧ State.reset.imep = .idle ∧
    State.reset.acc = 0 ∧ State.reset.fatal = none ∧ State.reset.readByte 0xFF0F#16 = 0#8 ∧
    State.reset.readByte 0xFFFF#16 = 0#8 ∧ State.reset.readByte 0xFF44#16 = 0#8 ∧
    (State.reset.readByte 0xFF40#16).getLsbD 7 = true

/-! ### The display timing unit -/

/-- With the LCD disabled the DTU forces LY to 0 and does nothing else (60_exceptions.md R325). -/
def Obligations.DtuWithLcdOffForcesLyToZero : Prop :=
  ∀ (s : State) (cost : Nat), s.memCanonical → (s.readByte 0xFF40#16).getLsbD 7 = false →
    (dtuTick cost s).readByte 0xFF44#16 = 0#8 ∧ memKeptBut [0xFF44#16] s (dtuTick cost s) ∧
      dtuTick cost s = { s with mem := (dtuTick cost s).mem, frameReady := false }

/-- With the LCD enabled the DTU accumulates `4 * cost`, steps LY once for each whole 456 modulo 154 and keeps the
remainder; storing 144 sets bit 0 of IF and reports `frame_ready`, once or not at all otherwise (60_exceptions.md R324,
R326 to R328). -/
def Obligations.DtuCountsScanlinesAndRaisesVBlank : Prop :=
  ∀ (s : State) (cost n : Nat), s.memCanonical → (s.readByte 0xFF40#16).getLsbD 7 = true →
    n = (s.acc + 4 * cost) / 456 →
    (dtuTick cost s).acc = (s.acc + 4 * cost) % 456 ∧
    (n = 0 → (dtuTick cost s).mem = s.mem ∧ (dtuTick cost s).frameReady = false) ∧
    (0 < n → ((dtuTick cost s).readByte 0xFF44#16).toNat = ((s.readByte 0xFF44#16).toNat + n) % 154) ∧
    ((∃ k, 0 < k ∧ k ≤ n ∧ ((s.readByte 0xFF44#16).toNat + k) % 154 = 144) →
      (dtuTick cost s).readByte 0xFF0F#16 = s.readByte 0xFF0F#16 ||| 1#8 ∧ (dtuTick cost s).frameReady = true) ∧
    ((¬ ∃ k, 0 < k ∧ k ≤ n ∧ ((s.readByte 0xFF44#16).toNat + k) % 154 = 144) →
      (dtuTick cost s).readByte 0xFF0F#16 = s.readByte 0xFF0F#16 ∧ (dtuTick cost s).frameReady = false) ∧
    memKeptBut [0xFF44#16, 0xFF0F#16] s (dtuTick cost s) ∧
    dtuTick cost s = { s with
      acc := (dtuTick cost s).acc, mem := (dtuTick cost s).mem, frameReady := (dtuTick cost s).frameReady }

/-! ### Boot -/

/-- Boot places the image from 0x0000 on over the reset contents, every register, PC, SP, IME, IMEP and ACC at its reset
value whatever the image, and refuses an image over 65536 bytes; a cartridge type byte other than 0 is Fatal before the
first tick (70_reset_and_hazards.md R350, R351, 93_implementation_defined.md U9). The model's choices in it: the values of
the registers and of the I/O defaults in `State.reset` (log entries 2 and 3), memory in the canonical form (log entry 6),
the two fields of the model's own (log entry 7), and `boot [] = .next State.reset` with the name of the refusal (log
entry 10). -/
def Obligations.BootLoadsAndChecksTheCartridge : Prop :=
  (∀ cart : List Byte, 65536 < cart.length → boot cart = .refused (.cartridgeTooLong cart.length)) ∧
    (∀ cart : List Byte, cart.length ≤ 65536 → ∃ s, boot cart = .next s ∧
      (∀ x : Word, s.readByte x = (cart[x.toNat]?).getD (resetByte x.toNat)) ∧
      ((cart[0x0147]?).getD 0#8 = 0#8 → s.fatal = none) ∧
      ((cart[0x0147]?).getD 0#8 ≠ 0#8 →
        step s = .fault (.unsupportedCartridge 0x0147#16 ((cart[0x0147]?).getD 0#8))) ∧
      s.memCanonical ∧ s = { State.reset with mem := s.mem, fatal := s.fatal }) ∧
    boot [] = .next State.reset
end

