-- ==== Sys2Proof/Laws/Bits.lean ====
section
/-! SUPPORT. Laws of the bit helpers: a word and its two bytes, the flag byte and its four flags. -/

namespace Sys2Proof

theorem lowByte_toNat (w : Word) : (lowByte w).toNat = w.toNat % 256 := by
  simp [lowByte]

theorem highByte_toNat (w : Word) : (highByte w).toNat = w.toNat / 256 := by
  have := w.isLt
  simp [highByte, Nat.shiftRight_eq_div_pow]
  omega

theorem wordOf_toNat (hi lo : Byte) : (wordOf hi lo).toNat = hi.toNat * 256 + lo.toNat := by
  have hl : lo.toNat < 2 ^ 8 := lo.isLt
  have h : (wordOf hi lo).toNat = hi.toNat <<< 8 ||| lo.toNat := BitVec.toNat_append hi lo
  rw [h, ← Nat.shiftLeft_add_eq_or_of_lt hl, Nat.shiftLeft_eq]

theorem lowByte_eq_ofNat (w : Word) : lowByte w = BitVec.ofNat 8 (w.toNat % 256) := by
  apply BitVec.eq_of_toNat_eq
  simp [lowByte_toNat]

theorem highByte_eq_ofNat (w : Word) : highByte w = BitVec.ofNat 8 (w.toNat / 256) := by
  have := w.isLt
  apply BitVec.eq_of_toNat_eq
  simp only [highByte_toNat, BitVec.toNat_ofNat]
  omega

@[simp] theorem lowByte_wordOf (hi lo : Byte) : lowByte (wordOf hi lo) = lo := by
  have := lo.isLt
  apply BitVec.eq_of_toNat_eq
  rw [lowByte_toNat, wordOf_toNat]
  omega

@[simp] theorem highByte_wordOf (hi lo : Byte) : highByte (wordOf hi lo) = hi := by
  have := lo.isLt
  apply BitVec.eq_of_toNat_eq
  rw [highByte_toNat, wordOf_toNat]
  omega

@[simp] theorem wordOf_high_low (w : Word) : wordOf (highByte w) (lowByte w) = w := by
  apply BitVec.eq_of_toNat_eq
  rw [wordOf_toNat, highByte_toNat, lowByte_toNat]
  omega

theorem sext_eq_ofInt (e : Byte) : sext e = BitVec.ofInt 16 e.toInt := rfl

namespace Machine

@[simp] theorem bitOf_packFlags_z (z n h c : Bool) : bitOf (packFlags z n h c) 7 = z := by
  cases z <;> cases n <;> cases h <;> cases c <;> decide

@[simp] theorem bitOf_packFlags_n (z n h c : Bool) : bitOf (packFlags z n h c) 6 = n := by
  cases z <;> cases n <;> cases h <;> cases c <;> decide

@[simp] theorem bitOf_packFlags_h (z n h c : Bool) : bitOf (packFlags z n h c) 5 = h := by
  cases z <;> cases n <;> cases h <;> cases c <;> decide

@[simp] theorem bitOf_packFlags_c (z n h c : Bool) : bitOf (packFlags z n h c) 4 = c := by
  cases z <;> cases n <;> cases h <;> cases c <;> decide

/-- Every flag byte that is packed has a zero low nibble (10_state.md R23). -/
@[simp] theorem packFlags_low (z n h c : Bool) : packFlags z n h c &&& 0x0F#8 = 0#8 := by
  cases z <;> cases n <;> cases h <;> cases c <;> decide

/-- A flag byte with a zero low nibble is its four flags. -/
theorem packFlags_of_low {f : Byte} (hf : f &&& 0x0F#8 = 0#8) :
    packFlags (bitOf f 7) (bitOf f 6) (bitOf f 5) (bitOf f 4) = f := by
  revert f
  decide

theorem low4_eq_mod (v : Byte) : low4 v = v.toNat % 16 := by
  revert v
  decide

theorem and_low_mask (v : Byte) : (v &&& 0xF0#8) &&& 0x0F#8 = 0#8 := by
  revert v
  decide

theorem and_high_of_low {v : Byte} (h : v &&& 0x0F#8 = 0#8) : v &&& 0xF0#8 = v := by
  revert v
  decide

end Machine

end Sys2Proof
end

