-- ==== Sys2Proof/Laws/ExecView.lean ====
section
/-! SUPPORT. `exec` seen through the shared operations: the rows of the table fall into the few shapes below, so a proof
about every instruction is a case split over the shapes. -/

namespace Sys2Proof.Machine

/-- The shared operation behind a meaning, with its operands. -/
inductive Shape where
  | nop
  | noEntry (op : Byte)
  | di
  | ei
  | load (d o : Opnd8)
  | loadImm (d : Opnd8) (v : Byte)
  | loadAcc (m : AddrMode)
  | storeAcc (m : AddrMode)
  | loadPair (p : Pair) (v : Word)
  | storeSp (x : Word)
  | loadSpHl
  | loadHlSp (e : Byte)
  | pushPair (p : StackPair)
  | popPair (p : StackPair)
  | accumulate (op : AluOp) (o : Opnd8)
  | accumulateImm (op : AluOp) (v : Byte)
  | increment (o : Opnd8)
  | decrement (o : Opnd8)
  | complementAcc
  | setCarry
  | complementCarry
  | addToHl (p : Pair)
  | incrementPair (p : Pair)
  | decrementPair (p : Pair)
  | addToSp (e : Byte)
  | rotateAcc (op : AccRot)
  | jump (t : Word)
  | jumpIf (cc : Cond) (t : Word)
  | jumpHl
  | jumpRelative (e : Byte)
  | jumpRelativeIf (cc : Cond) (e : Byte)
  | call (t : Word)
  | callIf (cc : Cond) (t : Word)
  | ret
  | retIf (cc : Cond)
  | retInterrupt
  | restart (t : BitNo)
  | rotate (op : RotOp) (o : Opnd8)
  | testBit (n : BitNo) (o : Opnd8)
  | resetBit (n : BitNo) (o : Opnd8)
  | setBit (n : BitNo) (o : Opnd8)
  | extendedOp (op2 : Byte)

/-- What a shape does. -/
def Shape.run (sh : Shape) (s : State) : Result :=
  match sh with
  | .nop => Machine.nop s
  | .noEntry op => Machine.noTableEntry op s
  | .di => Machine.disableInterrupts s
  | .ei => Machine.enableInterrupts s
  | .load d o => Machine.load d o s
  | .loadImm d v => Machine.loadImm d v s
  | .loadAcc m => Machine.loadAcc m s
  | .storeAcc m => Machine.storeAcc m s
  | .loadPair p v => Machine.loadPair p v s
  | .storeSp x => Machine.storeSp x s
  | .loadSpHl => Machine.loadSpHl s
  | .loadHlSp e => Machine.loadHlSp e s
  | .pushPair p => Machine.pushPair p s
  | .popPair p => Machine.popPair p s
  | .accumulate op o => Machine.accumulate op o s
  | .accumulateImm op v => Machine.accumulateImm op v s
  | .increment o => Machine.increment o s
  | .decrement o => Machine.decrement o s
  | .complementAcc => Machine.complementAcc s
  | .setCarry => Machine.setCarry s
  | .complementCarry => Machine.complementCarry s
  | .addToHl p => Machine.addToHl p s
  | .incrementPair p => Machine.incrementPair p s
  | .decrementPair p => Machine.decrementPair p s
  | .addToSp e => Machine.addToSp e s
  | .rotateAcc op => Machine.rotateAcc op s
  | .jump t => Machine.jump t s
  | .jumpIf cc t => Machine.jumpIf cc t s
  | .jumpHl => Machine.jumpHl s
  | .jumpRelative e => Machine.jumpRelative e s
  | .jumpRelativeIf cc e => Machine.jumpRelativeIf cc e s
  | .call t => Machine.call t s
  | .callIf cc t => Machine.callIf cc t s
  | .ret => Machine.ret s
  | .retIf cc => Machine.retIf cc s
  | .retInterrupt => Machine.retInterrupt s
  | .restart t => Machine.restart t s
  | .rotate op o => Machine.rotate op o s
  | .testBit n o => Machine.testBit n o s
  | .resetBit n o => Machine.resetBit n o s
  | .setBit n o => Machine.setBit n o s
  | .extendedOp op2 => Machine.extendedOp op2 s

/-- The shape of each row. -/
def shapeOf : Instr → Shape
  | .nop => .nop
  | .ldBcD16 d16 => .loadPair .bc d16
  | .ldIndBcA => .storeAcc .indBc
  | .incBc => .incrementPair .bc
  | .incB => .increment (.reg .b)
  | .decB => .decrement (.reg .b)
  | .ldBD8 d8 => .loadImm (.reg .b) d8
  | .rlca => .rotateAcc .rlca
  | .ldIndA16Sp a16 => .storeSp a16
  | .addHlBc => .addToHl .bc
  | .ldAIndBc => .loadAcc .indBc
  | .decBc => .decrementPair .bc
  | .incC => .increment (.reg .c)
  | .decC => .decrement (.reg .c)
  | .ldCD8 d8 => .loadImm (.reg .c) d8
  | .rrca => .rotateAcc .rrca
  | .stop => .noEntry 0x10#8
  | .ldDeD16 d16 => .loadPair .de d16
  | .ldIndDeA => .storeAcc .indDe
  | .incDe => .incrementPair .de
  | .incD => .increment (.reg .d)
  | .decD => .decrement (.reg .d)
  | .ldDD8 d8 => .loadImm (.reg .d) d8
  | .rla => .rotateAcc .rla
  | .jrE8 e8 => .jumpRelative e8
  | .addHlDe => .addToHl .de
  | .ldAIndDe => .loadAcc .indDe
  | .decDe => .decrementPair .de
  | .incE => .increment (.reg .e)
  | .decE => .decrement (.reg .e)
  | .ldED8 d8 => .loadImm (.reg .e) d8
  | .rra => .rotateAcc .rra
  | .jrNzE8 e8 => .jumpRelativeIf .nz e8
  | .ldHlD16 d16 => .loadPair .hl d16
  | .ldIndHlIncA => .storeAcc .indHlInc
  | .incHl => .incrementPair .hl
  | .incH => .increment (.reg .h)
  | .decH => .decrement (.reg .h)
  | .ldHD8 d8 => .loadImm (.reg .h) d8
  | .daa => .noEntry 0x27#8
  | .jrZE8 e8 => .jumpRelativeIf .z e8
  | .addHlHl => .addToHl .hl
  | .ldAIndHlInc => .loadAcc .indHlInc
  | .decHl => .decrementPair .hl
  | .incL => .increment (.reg .l)
  | .decL => .decrement (.reg .l)
  | .ldLD8 d8 => .loadImm (.reg .l) d8
  | .cpl => .complementAcc
  | .jrNcE8 e8 => .jumpRelativeIf .nc e8
  | .ldSpD16 d16 => .loadPair .sp d16
  | .ldIndHlDecA => .storeAcc .indHlDec
  | .incSp => .incrementPair .sp
  | .incIndHl => .increment .indHl
  | .decIndHl => .decrement .indHl
  | .ldIndHlD8 d8 => .loadImm .indHl d8
  | .scf => .setCarry
  | .jrCE8 e8 => .jumpRelativeIf .c e8
  | .addHlSp => .addToHl .sp
  | .ldAIndHlDec => .loadAcc .indHlDec
  | .decSp => .decrementPair .sp
  | .incA => .increment (.reg .a)
  | .decA => .decrement (.reg .a)
  | .ldAD8 d8 => .loadImm (.reg .a) d8
  | .ccf => .complementCarry
  | .ldBB => .load (.reg .b) (.reg .b)
  | .ldBC => .load (.reg .b) (.reg .c)
  | .ldBD => .load (.reg .b) (.reg .d)
  | .ldBE => .load (.reg .b) (.reg .e)
  | .ldBH => .load (.reg .b) (.reg .h)
  | .ldBL => .load (.reg .b) (.reg .l)
  | .ldBIndHl => .load (.reg .b) .indHl
  | .ldBA => .load (.reg .b) (.reg .a)
  | .ldCB => .load (.reg .c) (.reg .b)
  | .ldCC => .load (.reg .c) (.reg .c)
  | .ldCD => .load (.reg .c) (.reg .d)
  | .ldCE => .load (.reg .c) (.reg .e)
  | .ldCH => .load (.reg .c) (.reg .h)
  | .ldCL => .load (.reg .c) (.reg .l)
  | .ldCIndHl => .load (.reg .c) .indHl
  | .ldCA => .load (.reg .c) (.reg .a)
  | .ldDB => .load (.reg .d) (.reg .b)
  | .ldDC => .load (.reg .d) (.reg .c)
  | .ldDD => .load (.reg .d) (.reg .d)
  | .ldDE => .load (.reg .d) (.reg .e)
  | .ldDH => .load (.reg .d) (.reg .h)
  | .ldDL => .load (.reg .d) (.reg .l)
  | .ldDIndHl => .load (.reg .d) .indHl
  | .ldDA => .load (.reg .d) (.reg .a)
  | .ldEB => .load (.reg .e) (.reg .b)
  | .ldEC => .load (.reg .e) (.reg .c)
  | .ldED => .load (.reg .e) (.reg .d)
  | .ldEE => .load (.reg .e) (.reg .e)
  | .ldEH => .load (.reg .e) (.reg .h)
  | .ldEL => .load (.reg .e) (.reg .l)
  | .ldEIndHl => .load (.reg .e) .indHl
  | .ldEA => .load (.reg .e) (.reg .a)
  | .ldHB => .load (.reg .h) (.reg .b)
  | .ldHC => .load (.reg .h) (.reg .c)
  | .ldHD => .load (.reg .h) (.reg .d)
  | .ldHE => .load (.reg .h) (.reg .e)
  | .ldHH => .load (.reg .h) (.reg .h)
  | .ldHL => .load (.reg .h) (.reg .l)
  | .ldHIndHl => .load (.reg .h) .indHl
  | .ldHA => .load (.reg .h) (.reg .a)
  | .ldLB => .load (.reg .l) (.reg .b)
  | .ldLC => .load (.reg .l) (.reg .c)
  | .ldLD => .load (.reg .l) (.reg .d)
  | .ldLE => .load (.reg .l) (.reg .e)
  | .ldLH => .load (.reg .l) (.reg .h)
  | .ldLL => .load (.reg .l) (.reg .l)
  | .ldLIndHl => .load (.reg .l) .indHl
  | .ldLA => .load (.reg .l) (.reg .a)
  | .ldIndHlB => .load .indHl (.reg .b)
  | .ldIndHlC => .load .indHl (.reg .c)
  | .ldIndHlD => .load .indHl (.reg .d)
  | .ldIndHlE => .load .indHl (.reg .e)
  | .ldIndHlH => .load .indHl (.reg .h)
  | .ldIndHlL => .load .indHl (.reg .l)
  | .halt => .noEntry 0x76#8
  | .ldIndHlA => .load .indHl (.reg .a)
  | .ldAB => .load (.reg .a) (.reg .b)
  | .ldAC => .load (.reg .a) (.reg .c)
  | .ldAD => .load (.reg .a) (.reg .d)
  | .ldAE => .load (.reg .a) (.reg .e)
  | .ldAH => .load (.reg .a) (.reg .h)
  | .ldAL => .load (.reg .a) (.reg .l)
  | .ldAIndHl => .load (.reg .a) .indHl
  | .ldAA => .load (.reg .a) (.reg .a)
  | .addB => .accumulate .add (.reg .b)
  | .addC => .accumulate .add (.reg .c)
  | .addD => .accumulate .add (.reg .d)
  | .addE => .accumulate .add (.reg .e)
  | .addH => .accumulate .add (.reg .h)
  | .addL => .accumulate .add (.reg .l)
  | .addIndHl => .accumulate .add .indHl
  | .addA => .accumulate .add (.reg .a)
  | .adcB => .accumulate .adc (.reg .b)
  | .adcC => .accumulate .adc (.reg .c)
  | .adcD => .accumulate .adc (.reg .d)
  | .adcE => .accumulate .adc (.reg .e)
  | .adcH => .accumulate .adc (.reg .h)
  | .adcL => .accumulate .adc (.reg .l)
  | .adcIndHl => .accumulate .adc .indHl
  | .adcA => .accumulate .adc (.reg .a)
  | .subB => .accumulate .sub (.reg .b)
  | .subC => .accumulate .sub (.reg .c)
  | .subD => .accumulate .sub (.reg .d)
  | .subE => .accumulate .sub (.reg .e)
  | .subH => .accumulate .sub (.reg .h)
  | .subL => .accumulate .sub (.reg .l)
  | .subIndHl => .accumulate .sub .indHl
  | .subA => .accumulate .sub (.reg .a)
  | .sbcB => .accumulate .sbc (.reg .b)
  | .sbcC => .accumulate .sbc (.reg .c)
  | .sbcD => .accumulate .sbc (.reg .d)
  | .sbcE => .accumulate .sbc (.reg .e)
  | .sbcH => .accumulate .sbc (.reg .h)
  | .sbcL => .accumulate .sbc (.reg .l)
  | .sbcIndHl => .accumulate .sbc .indHl
  | .sbcA => .accumulate .sbc (.reg .a)
  | .andB => .accumulate .and (.reg .b)
  | .andC => .accumulate .and (.reg .c)
  | .andD => .accumulate .and (.reg .d)
  | .andE => .accumulate .and (.reg .e)
  | .andH => .accumulate .and (.reg .h)
  | .andL => .accumulate .and (.reg .l)
  | .andIndHl => .accumulate .and .indHl
  | .andA => .accumulate .and (.reg .a)
  | .xorB => .accumulate .xor (.reg .b)
  | .xorC => .accumulate .xor (.reg .c)
  | .xorD => .accumulate .xor (.reg .d)
  | .xorE => .accumulate .xor (.reg .e)
  | .xorH => .accumulate .xor (.reg .h)
  | .xorL => .accumulate .xor (.reg .l)
  | .xorIndHl => .accumulate .xor .indHl
  | .xorA => .accumulate .xor (.reg .a)
  | .orB => .accumulate .or (.reg .b)
  | .orC => .accumulate .or (.reg .c)
  | .orD => .accumulate .or (.reg .d)
  | .orE => .accumulate .or (.reg .e)
  | .orH => .accumulate .or (.reg .h)
  | .orL => .accumulate .or (.reg .l)
  | .orIndHl => .accumulate .or .indHl
  | .orA => .accumulate .or (.reg .a)
  | .cpB => .accumulate .cp (.reg .b)
  | .cpC => .accumulate .cp (.reg .c)
  | .cpD => .accumulate .cp (.reg .d)
  | .cpE => .accumulate .cp (.reg .e)
  | .cpH => .accumulate .cp (.reg .h)
  | .cpL => .accumulate .cp (.reg .l)
  | .cpIndHl => .accumulate .cp .indHl
  | .cpA => .accumulate .cp (.reg .a)
  | .retNz => .retIf .nz
  | .popBc => .popPair .bc
  | .jpNzA16 a16 => .jumpIf .nz a16
  | .jpA16 a16 => .jump a16
  | .callNzA16 a16 => .callIf .nz a16
  | .pushBc => .pushPair .bc
  | .addD8 d8 => .accumulateImm .add d8
  | .rst00 => .restart .n0
  | .retZ => .retIf .z
  | .ret => .ret
  | .jpZA16 a16 => .jumpIf .z a16
  | .prefixCb op2 => .extendedOp op2
  | .callZA16 a16 => .callIf .z a16
  | .callA16 a16 => .call a16
  | .adcD8 d8 => .accumulateImm .adc d8
  | .rst08 => .restart .n1
  | .retNc => .retIf .nc
  | .popDe => .popPair .de
  | .jpNcA16 a16 => .jumpIf .nc a16
  | .unassignedD3 => .noEntry 0xD3#8
  | .callNcA16 a16 => .callIf .nc a16
  | .pushDe => .pushPair .de
  | .subD8 d8 => .accumulateImm .sub d8
  | .rst10 => .restart .n2
  | .retC => .retIf .c
  | .reti => .retInterrupt
  | .jpCA16 a16 => .jumpIf .c a16
  | .unassignedDB => .noEntry 0xDB#8
  | .callCA16 a16 => .callIf .c a16
  | .unassignedDD => .noEntry 0xDD#8
  | .sbcD8 d8 => .accumulateImm .sbc d8
  | .rst18 => .restart .n3
  | .ldhA8A a8 => .storeAcc (.high a8)
  | .popHl => .popPair .hl
  | .ldIndCA => .storeAcc .highC
  | .unassignedE3 => .noEntry 0xE3#8
  | .unassignedE4 => .noEntry 0xE4#8
  | .pushHl => .pushPair .hl
  | .andD8 d8 => .accumulateImm .and d8
  | .rst20 => .restart .n4
  | .addSpE8 e8 => .addToSp e8
  | .jpHl => .jumpHl
  | .ldIndA16A a16 => .storeAcc (.abs a16)
  | .unassignedEB => .noEntry 0xEB#8
  | .unassignedEC => .noEntry 0xEC#8
  | .unassignedED => .noEntry 0xED#8
  | .xorD8 d8 => .accumulateImm .xor d8
  | .rst28 => .restart .n5
  | .ldhAA8 a8 => .loadAcc (.high a8)
  | .popAf => .popPair .af
  | .ldAIndC => .loadAcc .highC
  | .di => .di
  | .unassignedF4 => .noEntry 0xF4#8
  | .pushAf => .pushPair .af
  | .orD8 d8 => .accumulateImm .or d8
  | .rst30 => .restart .n6
  | .ldHlSpE8 e8 => .loadHlSp e8
  | .ldSpHl => .loadSpHl
  | .ldAIndA16 a16 => .loadAcc (.abs a16)
  | .ei => .ei
  | .unassignedFC => .noEntry 0xFC#8
  | .unassignedFD => .noEntry 0xFD#8
  | .cpD8 d8 => .accumulateImm .cp d8
  | .rst38 => .restart .n7
  | .rlcB => .rotate .rlc (.reg .b)
  | .rlcC => .rotate .rlc (.reg .c)
  | .rlcD => .rotate .rlc (.reg .d)
  | .rlcE => .rotate .rlc (.reg .e)
  | .rlcH => .rotate .rlc (.reg .h)
  | .rlcL => .rotate .rlc (.reg .l)
  | .rlcIndHl => .rotate .rlc .indHl
  | .rlcA => .rotate .rlc (.reg .a)
  | .rrcB => .rotate .rrc (.reg .b)
  | .rrcC => .rotate .rrc (.reg .c)
  | .rrcD => .rotate .rrc (.reg .d)
  | .rrcE => .rotate .rrc (.reg .e)
  | .rrcH => .rotate .rrc (.reg .h)
  | .rrcL => .rotate .rrc (.reg .l)
  | .rrcIndHl => .rotate .rrc .indHl
  | .rrcA => .rotate .rrc (.reg .a)
  | .rlB => .rotate .rl (.reg .b)
  | .rlC => .rotate .rl (.reg .c)
  | .rlD => .rotate .rl (.reg .d)
  | .rlE => .rotate .rl (.reg .e)
  | .rlH => .rotate .rl (.reg .h)
  | .rlL => .rotate .rl (.reg .l)
  | .rlIndHl => .rotate .rl .indHl
  | .rlA => .rotate .rl (.reg .a)
  | .rrB => .rotate .rr (.reg .b)
  | .rrC => .rotate .rr (.reg .c)
  | .rrD => .rotate .rr (.reg .d)
  | .rrE => .rotate .rr (.reg .e)
  | .rrH => .rotate .rr (.reg .h)
  | .rrL => .rotate .rr (.reg .l)
  | .rrIndHl => .rotate .rr .indHl
  | .rrA => .rotate .rr (.reg .a)
  | .slaB => .rotate .sla (.reg .b)
  | .slaC => .rotate .sla (.reg .c)
  | .slaD => .rotate .sla (.reg .d)
  | .slaE => .rotate .sla (.reg .e)
  | .slaH => .rotate .sla (.reg .h)
  | .slaL => .rotate .sla (.reg .l)
  | .slaIndHl => .rotate .sla .indHl
  | .slaA => .rotate .sla (.reg .a)
  | .sraB => .rotate .sra (.reg .b)
  | .sraC => .rotate .sra (.reg .c)
  | .sraD => .rotate .sra (.reg .d)
  | .sraE => .rotate .sra (.reg .e)
  | .sraH => .rotate .sra (.reg .h)
  | .sraL => .rotate .sra (.reg .l)
  | .sraIndHl => .rotate .sra .indHl
  | .sraA => .rotate .sra (.reg .a)
  | .swapB => .rotate .swap (.reg .b)
  | .swapC => .rotate .swap (.reg .c)
  | .swapD => .rotate .swap (.reg .d)
  | .swapE => .rotate .swap (.reg .e)
  | .swapH => .rotate .swap (.reg .h)
  | .swapL => .rotate .swap (.reg .l)
  | .swapIndHl => .rotate .swap .indHl
  | .swapA => .rotate .swap (.reg .a)
  | .srlB => .rotate .srl (.reg .b)
  | .srlC => .rotate .srl (.reg .c)
  | .srlD => .rotate .srl (.reg .d)
  | .srlE => .rotate .srl (.reg .e)
  | .srlH => .rotate .srl (.reg .h)
  | .srlL => .rotate .srl (.reg .l)
  | .srlIndHl => .rotate .srl .indHl
  | .srlA => .rotate .srl (.reg .a)
  | .bit0B => .testBit .n0 (.reg .b)
  | .bit0C => .testBit .n0 (.reg .c)
  | .bit0D => .testBit .n0 (.reg .d)
  | .bit0E => .testBit .n0 (.reg .e)
  | .bit0H => .testBit .n0 (.reg .h)
  | .bit0L => .testBit .n0 (.reg .l)
  | .bit0IndHl => .testBit .n0 .indHl
  | .bit0A => .testBit .n0 (.reg .a)
  | .bit1B => .testBit .n1 (.reg .b)
  | .bit1C => .testBit .n1 (.reg .c)
  | .bit1D => .testBit .n1 (.reg .d)
  | .bit1E => .testBit .n1 (.reg .e)
  | .bit1H => .testBit .n1 (.reg .h)
  | .bit1L => .testBit .n1 (.reg .l)
  | .bit1IndHl => .testBit .n1 .indHl
  | .bit1A => .testBit .n1 (.reg .a)
  | .bit2B => .testBit .n2 (.reg .b)
  | .bit2C => .testBit .n2 (.reg .c)
  | .bit2D => .testBit .n2 (.reg .d)
  | .bit2E => .testBit .n2 (.reg .e)
  | .bit2H => .testBit .n2 (.reg .h)
  | .bit2L => .testBit .n2 (.reg .l)
  | .bit2IndHl => .testBit .n2 .indHl
  | .bit2A => .testBit .n2 (.reg .a)
  | .bit3B => .testBit .n3 (.reg .b)
  | .bit3C => .testBit .n3 (.reg .c)
  | .bit3D => .testBit .n3 (.reg .d)
  | .bit3E => .testBit .n3 (.reg .e)
  | .bit3H => .testBit .n3 (.reg .h)
  | .bit3L => .testBit .n3 (.reg .l)
  | .bit3IndHl => .testBit .n3 .indHl
  | .bit3A => .testBit .n3 (.reg .a)
  | .bit4B => .testBit .n4 (.reg .b)
  | .bit4C => .testBit .n4 (.reg .c)
  | .bit4D => .testBit .n4 (.reg .d)
  | .bit4E => .testBit .n4 (.reg .e)
  | .bit4H => .testBit .n4 (.reg .h)
  | .bit4L => .testBit .n4 (.reg .l)
  | .bit4IndHl => .testBit .n4 .indHl
  | .bit4A => .testBit .n4 (.reg .a)
  | .bit5B => .testBit .n5 (.reg .b)
  | .bit5C => .testBit .n5 (.reg .c)
  | .bit5D => .testBit .n5 (.reg .d)
  | .bit5E => .testBit .n5 (.reg .e)
  | .bit5H => .testBit .n5 (.reg .h)
  | .bit5L => .testBit .n5 (.reg .l)
  | .bit5IndHl => .testBit .n5 .indHl
  | .bit5A => .testBit .n5 (.reg .a)
  | .bit6B => .testBit .n6 (.reg .b)
  | .bit6C => .testBit .n6 (.reg .c)
  | .bit6D => .testBit .n6 (.reg .d)
  | .bit6E => .testBit .n6 (.reg .e)
  | .bit6H => .testBit .n6 (.reg .h)
  | .bit6L => .testBit .n6 (.reg .l)
  | .bit6IndHl => .testBit .n6 .indHl
  | .bit6A => .testBit .n6 (.reg .a)
  | .bit7B => .testBit .n7 (.reg .b)
  | .bit7C => .testBit .n7 (.reg .c)
  | .bit7D => .testBit .n7 (.reg .d)
  | .bit7E => .testBit .n7 (.reg .e)
  | .bit7H => .testBit .n7 (.reg .h)
  | .bit7L => .testBit .n7 (.reg .l)
  | .bit7IndHl => .testBit .n7 .indHl
  | .bit7A => .testBit .n7 (.reg .a)
  | .res0B => .resetBit .n0 (.reg .b)
  | .res0C => .resetBit .n0 (.reg .c)
  | .res0D => .resetBit .n0 (.reg .d)
  | .res0E => .resetBit .n0 (.reg .e)
  | .res0H => .resetBit .n0 (.reg .h)
  | .res0L => .resetBit .n0 (.reg .l)
  | .res0IndHl => .resetBit .n0 .indHl
  | .res0A => .resetBit .n0 (.reg .a)
  | .res1B => .resetBit .n1 (.reg .b)
  | .res1C => .resetBit .n1 (.reg .c)
  | .res1D => .resetBit .n1 (.reg .d)
  | .res1E => .resetBit .n1 (.reg .e)
  | .res1H => .resetBit .n1 (.reg .h)
  | .res1L => .resetBit .n1 (.reg .l)
  | .res1IndHl => .resetBit .n1 .indHl
  | .res1A => .resetBit .n1 (.reg .a)
  | .res2B => .resetBit .n2 (.reg .b)
  | .res2C => .resetBit .n2 (.reg .c)
  | .res2D => .resetBit .n2 (.reg .d)
  | .res2E => .resetBit .n2 (.reg .e)
  | .res2H => .resetBit .n2 (.reg .h)
  | .res2L => .resetBit .n2 (.reg .l)
  | .res2IndHl => .resetBit .n2 .indHl
  | .res2A => .resetBit .n2 (.reg .a)
  | .res3B => .resetBit .n3 (.reg .b)
  | .res3C => .resetBit .n3 (.reg .c)
  | .res3D => .resetBit .n3 (.reg .d)
  | .res3E => .resetBit .n3 (.reg .e)
  | .res3H => .resetBit .n3 (.reg .h)
  | .res3L => .resetBit .n3 (.reg .l)
  | .res3IndHl => .resetBit .n3 .indHl
  | .res3A => .resetBit .n3 (.reg .a)
  | .res4B => .resetBit .n4 (.reg .b)
  | .res4C => .resetBit .n4 (.reg .c)
  | .res4D => .resetBit .n4 (.reg .d)
  | .res4E => .resetBit .n4 (.reg .e)
  | .res4H => .resetBit .n4 (.reg .h)
  | .res4L => .resetBit .n4 (.reg .l)
  | .res4IndHl => .resetBit .n4 .indHl
  | .res4A => .resetBit .n4 (.reg .a)
  | .res5B => .resetBit .n5 (.reg .b)
  | .res5C => .resetBit .n5 (.reg .c)
  | .res5D => .resetBit .n5 (.reg .d)
  | .res5E => .resetBit .n5 (.reg .e)
  | .res5H => .resetBit .n5 (.reg .h)
  | .res5L => .resetBit .n5 (.reg .l)
  | .res5IndHl => .resetBit .n5 .indHl
  | .res5A => .resetBit .n5 (.reg .a)
  | .res6B => .resetBit .n6 (.reg .b)
  | .res6C => .resetBit .n6 (.reg .c)
  | .res6D => .resetBit .n6 (.reg .d)
  | .res6E => .resetBit .n6 (.reg .e)
  | .res6H => .resetBit .n6 (.reg .h)
  | .res6L => .resetBit .n6 (.reg .l)
  | .res6IndHl => .resetBit .n6 .indHl
  | .res6A => .resetBit .n6 (.reg .a)
  | .res7B => .resetBit .n7 (.reg .b)
  | .res7C => .resetBit .n7 (.reg .c)
  | .res7D => .resetBit .n7 (.reg .d)
  | .res7E => .resetBit .n7 (.reg .e)
  | .res7H => .resetBit .n7 (.reg .h)
  | .res7L => .resetBit .n7 (.reg .l)
  | .res7IndHl => .resetBit .n7 .indHl
  | .res7A => .resetBit .n7 (.reg .a)
  | .set0B => .setBit .n0 (.reg .b)
  | .set0C => .setBit .n0 (.reg .c)
  | .set0D => .setBit .n0 (.reg .d)
  | .set0E => .setBit .n0 (.reg .e)
  | .set0H => .setBit .n0 (.reg .h)
  | .set0L => .setBit .n0 (.reg .l)
  | .set0IndHl => .setBit .n0 .indHl
  | .set0A => .setBit .n0 (.reg .a)
  | .set1B => .setBit .n1 (.reg .b)
  | .set1C => .setBit .n1 (.reg .c)
  | .set1D => .setBit .n1 (.reg .d)
  | .set1E => .setBit .n1 (.reg .e)
  | .set1H => .setBit .n1 (.reg .h)
  | .set1L => .setBit .n1 (.reg .l)
  | .set1IndHl => .setBit .n1 .indHl
  | .set1A => .setBit .n1 (.reg .a)
  | .set2B => .setBit .n2 (.reg .b)
  | .set2C => .setBit .n2 (.reg .c)
  | .set2D => .setBit .n2 (.reg .d)
  | .set2E => .setBit .n2 (.reg .e)
  | .set2H => .setBit .n2 (.reg .h)
  | .set2L => .setBit .n2 (.reg .l)
  | .set2IndHl => .setBit .n2 .indHl
  | .set2A => .setBit .n2 (.reg .a)
  | .set3B => .setBit .n3 (.reg .b)
  | .set3C => .setBit .n3 (.reg .c)
  | .set3D => .setBit .n3 (.reg .d)
  | .set3E => .setBit .n3 (.reg .e)
  | .set3H => .setBit .n3 (.reg .h)
  | .set3L => .setBit .n3 (.reg .l)
  | .set3IndHl => .setBit .n3 .indHl
  | .set3A => .setBit .n3 (.reg .a)
  | .set4B => .setBit .n4 (.reg .b)
  | .set4C => .setBit .n4 (.reg .c)
  | .set4D => .setBit .n4 (.reg .d)
  | .set4E => .setBit .n4 (.reg .e)
  | .set4H => .setBit .n4 (.reg .h)
  | .set4L => .setBit .n4 (.reg .l)
  | .set4IndHl => .setBit .n4 .indHl
  | .set4A => .setBit .n4 (.reg .a)
  | .set5B => .setBit .n5 (.reg .b)
  | .set5C => .setBit .n5 (.reg .c)
  | .set5D => .setBit .n5 (.reg .d)
  | .set5E => .setBit .n5 (.reg .e)
  | .set5H => .setBit .n5 (.reg .h)
  | .set5L => .setBit .n5 (.reg .l)
  | .set5IndHl => .setBit .n5 .indHl
  | .set5A => .setBit .n5 (.reg .a)
  | .set6B => .setBit .n6 (.reg .b)
  | .set6C => .setBit .n6 (.reg .c)
  | .set6D => .setBit .n6 (.reg .d)
  | .set6E => .setBit .n6 (.reg .e)
  | .set6H => .setBit .n6 (.reg .h)
  | .set6L => .setBit .n6 (.reg .l)
  | .set6IndHl => .setBit .n6 .indHl
  | .set6A => .setBit .n6 (.reg .a)
  | .set7B => .setBit .n7 (.reg .b)
  | .set7C => .setBit .n7 (.reg .c)
  | .set7D => .setBit .n7 (.reg .d)
  | .set7E => .setBit .n7 (.reg .e)
  | .set7H => .setBit .n7 (.reg .h)
  | .set7L => .setBit .n7 (.reg .l)
  | .set7IndHl => .setBit .n7 .indHl
  | .set7A => .setBit .n7 (.reg .a)

/-- Every instruction runs its shape. -/
theorem exec_eq_run (i : Instr) (s : State) : exec i s = (shapeOf i).run s := by
  cases i <;> rfl

/-- A property of every shape is a property of every instruction. -/
theorem exec_induct {P : Result → Prop} {s : State} (h : ∀ sh : Shape, P (sh.run s)) (i : Instr) : P (exec i s) := by
  rw [exec_eq_run]
  exact h _

end Sys2Proof.Machine
end

