-- ==== Sys2Proof/Laws/Memory.lean ====
section
/-! SUPPORT. Laws of memory: a read after a write, and the canonical form that every write keeps. -/

namespace Sys2Proof.Machine

namespace Memory

theorem get_set_ne (m : Memory) {a b : Nat} (v : Byte) (h : b ≠ a) : (m.set a v).get b = m.get b := by
  induction m with
  | nil =>
    simp only [set]
    split
    · rfl
    · simp [get, Ne.symm h]
  | cons p m ih =>
    obtain ⟨k, w⟩ := p
    simp only [set]
    split
    · split
      · rfl
      · simp [get, Ne.symm h]
    · split
      · rename_i hk
        subst hk
        split
        · simp [get, Ne.symm h]
        · simp [get, Ne.symm h]
      · simp only [get, ih]

theorem wfFrom_mono {lo lo' : Nat} {m : Memory} (h : m.wfFrom lo = true) (hl : lo' ≤ lo) : m.wfFrom lo' = true := by
  cases m with
  | nil => rfl
  | cons p m =>
    simp only [wfFrom, Bool.and_eq_true, decide_eq_true_eq] at h ⊢
    exact ⟨⟨⟨by omega, h.1.1.2⟩, h.1.2⟩, h.2⟩

/-- An address below every entry reads the reset contents. -/
theorem get_of_lt {lo a : Nat} {m : Memory} (h : m.wfFrom lo = true) (ha : a < lo) : m.get a = resetByte a := by
  induction m generalizing lo with
  | nil => rfl
  | cons p m ih =>
    simp only [wfFrom, Bool.and_eq_true, decide_eq_true_eq] at h
    have hk : p.1 ≠ a := by omega
    simp only [get, hk, if_false]
    exact ih h.2 (by omega)

theorem get_set_self_from {lo : Nat} {m : Memory} (h : m.wfFrom lo = true) (a : Nat) (v : Byte) :
    (m.set a v).get a = v := by
  induction m generalizing lo with
  | nil =>
    simp only [set]
    split
    · rename_i hv
      simp [get, hv]
    · simp [get]
  | cons p m ih =>
    obtain ⟨k, w⟩ := p
    have h' := h
    simp only [wfFrom, Bool.and_eq_true, decide_eq_true_eq] at h'
    simp only [set]
    split
    · rename_i hlt
      split
      · rename_i hv
        have hk : k ≠ a := by omega
        simp only [get, hk, if_false]
        rw [hv]
        exact get_of_lt h'.2 (by omega)
      · simp [get]
    · split
      · rename_i hk
        subst hk
        split
        · rename_i hv
          rw [hv]
          exact get_of_lt h'.2 (by omega)
        · simp [get]
      · rename_i hk
        simp only [get, Ne.symm hk, if_false]
        exact ih h'.2

/-- A read after a write to the same address gives the value written. -/
theorem get_set_self {m : Memory} (h : m.wf = true) (a : Nat) (v : Byte) : (m.set a v).get a = v :=
  get_set_self_from h a v

theorem set_wfFrom {lo a : Nat} {m : Memory} (h : m.wfFrom lo = true) (hlo : lo ≤ a) (ha : a < 65536) (v : Byte) :
    (m.set a v).wfFrom lo = true := by
  induction m generalizing lo with
  | nil =>
    simp only [set]
    split
    · rfl
    · rename_i hv
      simp [wfFrom, hlo, ha, hv]
  | cons p m ih =>
    obtain ⟨k, w⟩ := p
    have h' := h
    simp only [wfFrom, Bool.and_eq_true, decide_eq_true_eq] at h'
    simp only [set]
    split
    · rename_i hlt
      split
      · exact h
      · rename_i hv
        simp only [wfFrom, Bool.and_eq_true, decide_eq_true_eq]
        exact ⟨⟨⟨hlo, ha⟩, by simpa using hv⟩, ⟨⟨⟨by omega, h'.1.1.2⟩, h'.1.2⟩, h'.2⟩⟩
    · split
      · rename_i hk
        subst hk
        split
        · exact wfFrom_mono h'.2 (by omega)
        · rename_i hv
          simp only [wfFrom, Bool.and_eq_true, decide_eq_true_eq]
          exact ⟨⟨⟨hlo, ha⟩, by simpa using hv⟩, h'.2⟩
      · rename_i hk
        simp only [wfFrom, Bool.and_eq_true, decide_eq_true_eq]
        exact ⟨⟨⟨h'.1.1.1, h'.1.1.2⟩, h'.1.2⟩, ih h'.2 (by omega)⟩

/-- A write keeps the canonical form. -/
theorem set_wf {m : Memory} (h : m.wf = true) {a : Nat} (ha : a < 65536) (v : Byte) : (m.set a v).wf = true :=
  set_wfFrom h (Nat.zero_le a) ha v

/-- Loading an image inside the address space keeps the canonical form. -/
theorem load_wf {m : Memory} (h : m.wf = true) (vs : List Byte) {a : Nat} (ha : a + vs.length ≤ 65536) :
    (m.load a vs).wf = true := by
  induction vs generalizing m a with
  | nil => exact h
  | cons v vs ih =>
    simp only [List.length_cons] at ha
    exact ih (set_wf h (by omega) v) (by omega)

end Memory

end Sys2Proof.Machine
end

