-- ==== Sys2Proof/Laws/State.lean ====
section
/-! SUPPORT. One lemma for each field of State under each update: what the update leaves, and what it writes. -/

namespace Sys2Proof.Machine

/-! ### setReg -/

@[simp] theorem State.setReg_f (s : State) (r : Reg) (v : Byte) :
    (s.setReg r v).f = s.f := by
  cases r <;> rfl
@[simp] theorem State.setReg_pc (s : State) (r : Reg) (v : Byte) :
    (s.setReg r v).pc = s.pc := by
  cases r <;> rfl
@[simp] theorem State.setReg_sp (s : State) (r : Reg) (v : Byte) :
    (s.setReg r v).sp = s.sp := by
  cases r <;> rfl
@[simp] theorem State.setReg_ime (s : State) (r : Reg) (v : Byte) :
    (s.setReg r v).ime = s.ime := by
  cases r <;> rfl
@[simp] theorem State.setReg_imep (s : State) (r : Reg) (v : Byte) :
    (s.setReg r v).imep = s.imep := by
  cases r <;> rfl
@[simp] theorem State.setReg_acc (s : State) (r : Reg) (v : Byte) :
    (s.setReg r v).acc = s.acc := by
  cases r <;> rfl
@[simp] theorem State.setReg_mem (s : State) (r : Reg) (v : Byte) :
    (s.setReg r v).mem = s.mem := by
  cases r <;> rfl
@[simp] theorem State.setReg_fatal (s : State) (r : Reg) (v : Byte) :
    (s.setReg r v).fatal = s.fatal := by
  cases r <;> rfl
@[simp] theorem State.setReg_cost (s : State) (r : Reg) (v : Byte) :
    (s.setReg r v).cost = s.cost := by
  cases r <;> rfl
@[simp] theorem State.setReg_frameReady (s : State) (r : Reg) (v : Byte) :
    (s.setReg r v).frameReady = s.frameReady := by
  cases r <;> rfl

/-! ### setBc -/

@[simp] theorem State.setBc_a (s : State) (v : Word) :
    (s.setBc v).a = s.a := rfl
@[simp] theorem State.setBc_f (s : State) (v : Word) :
    (s.setBc v).f = s.f := rfl
@[simp] theorem State.setBc_b (s : State) (v : Word) :
    (s.setBc v).b = highByte v := rfl
@[simp] theorem State.setBc_c (s : State) (v : Word) :
    (s.setBc v).c = lowByte v := rfl
@[simp] theorem State.setBc_d (s : State) (v : Word) :
    (s.setBc v).d = s.d := rfl
@[simp] theorem State.setBc_e (s : State) (v : Word) :
    (s.setBc v).e = s.e := rfl
@[simp] theorem State.setBc_h (s : State) (v : Word) :
    (s.setBc v).h = s.h := rfl
@[simp] theorem State.setBc_l (s : State) (v : Word) :
    (s.setBc v).l = s.l := rfl
@[simp] theorem State.setBc_pc (s : State) (v : Word) :
    (s.setBc v).pc = s.pc := rfl
@[simp] theorem State.setBc_sp (s : State) (v : Word) :
    (s.setBc v).sp = s.sp := rfl
@[simp] theorem State.setBc_ime (s : State) (v : Word) :
    (s.setBc v).ime = s.ime := rfl
@[simp] theorem State.setBc_imep (s : State) (v : Word) :
    (s.setBc v).imep = s.imep := rfl
@[simp] theorem State.setBc_acc (s : State) (v : Word) :
    (s.setBc v).acc = s.acc := rfl
@[simp] theorem State.setBc_mem (s : State) (v : Word) :
    (s.setBc v).mem = s.mem := rfl
@[simp] theorem State.setBc_fatal (s : State) (v : Word) :
    (s.setBc v).fatal = s.fatal := rfl
@[simp] theorem State.setBc_cost (s : State) (v : Word) :
    (s.setBc v).cost = s.cost := rfl
@[simp] theorem State.setBc_frameReady (s : State) (v : Word) :
    (s.setBc v).frameReady = s.frameReady := rfl

/-! ### setDe -/

@[simp] theorem State.setDe_a (s : State) (v : Word) :
    (s.setDe v).a = s.a := rfl
@[simp] theorem State.setDe_f (s : State) (v : Word) :
    (s.setDe v).f = s.f := rfl
@[simp] theorem State.setDe_b (s : State) (v : Word) :
    (s.setDe v).b = s.b := rfl
@[simp] theorem State.setDe_c (s : State) (v : Word) :
    (s.setDe v).c = s.c := rfl
@[simp] theorem State.setDe_d (s : State) (v : Word) :
    (s.setDe v).d = highByte v := rfl
@[simp] theorem State.setDe_e (s : State) (v : Word) :
    (s.setDe v).e = lowByte v := rfl
@[simp] theorem State.setDe_h (s : State) (v : Word) :
    (s.setDe v).h = s.h := rfl
@[simp] theorem State.setDe_l (s : State) (v : Word) :
    (s.setDe v).l = s.l := rfl
@[simp] theorem State.setDe_pc (s : State) (v : Word) :
    (s.setDe v).pc = s.pc := rfl
@[simp] theorem State.setDe_sp (s : State) (v : Word) :
    (s.setDe v).sp = s.sp := rfl
@[simp] theorem State.setDe_ime (s : State) (v : Word) :
    (s.setDe v).ime = s.ime := rfl
@[simp] theorem State.setDe_imep (s : State) (v : Word) :
    (s.setDe v).imep = s.imep := rfl
@[simp] theorem State.setDe_acc (s : State) (v : Word) :
    (s.setDe v).acc = s.acc := rfl
@[simp] theorem State.setDe_mem (s : State) (v : Word) :
    (s.setDe v).mem = s.mem := rfl
@[simp] theorem State.setDe_fatal (s : State) (v : Word) :
    (s.setDe v).fatal = s.fatal := rfl
@[simp] theorem State.setDe_cost (s : State) (v : Word) :
    (s.setDe v).cost = s.cost := rfl
@[simp] theorem State.setDe_frameReady (s : State) (v : Word) :
    (s.setDe v).frameReady = s.frameReady := rfl

/-! ### setHl -/

@[simp] theorem State.setHl_a (s : State) (v : Word) :
    (s.setHl v).a = s.a := rfl
@[simp] theorem State.setHl_f (s : State) (v : Word) :
    (s.setHl v).f = s.f := rfl
@[simp] theorem State.setHl_b (s : State) (v : Word) :
    (s.setHl v).b = s.b := rfl
@[simp] theorem State.setHl_c (s : State) (v : Word) :
    (s.setHl v).c = s.c := rfl
@[simp] theorem State.setHl_d (s : State) (v : Word) :
    (s.setHl v).d = s.d := rfl
@[simp] theorem State.setHl_e (s : State) (v : Word) :
    (s.setHl v).e = s.e := rfl
@[simp] theorem State.setHl_h (s : State) (v : Word) :
    (s.setHl v).h = highByte v := rfl
@[simp] theorem State.setHl_l (s : State) (v : Word) :
    (s.setHl v).l = lowByte v := rfl
@[simp] theorem State.setHl_pc (s : State) (v : Word) :
    (s.setHl v).pc = s.pc := rfl
@[simp] theorem State.setHl_sp (s : State) (v : Word) :
    (s.setHl v).sp = s.sp := rfl
@[simp] theorem State.setHl_ime (s : State) (v : Word) :
    (s.setHl v).ime = s.ime := rfl
@[simp] theorem State.setHl_imep (s : State) (v : Word) :
    (s.setHl v).imep = s.imep := rfl
@[simp] theorem State.setHl_acc (s : State) (v : Word) :
    (s.setHl v).acc = s.acc := rfl
@[simp] theorem State.setHl_mem (s : State) (v : Word) :
    (s.setHl v).mem = s.mem := rfl
@[simp] theorem State.setHl_fatal (s : State) (v : Word) :
    (s.setHl v).fatal = s.fatal := rfl
@[simp] theorem State.setHl_cost (s : State) (v : Word) :
    (s.setHl v).cost = s.cost := rfl
@[simp] theorem State.setHl_frameReady (s : State) (v : Word) :
    (s.setHl v).frameReady = s.frameReady := rfl

/-! ### setAf -/

@[simp] theorem State.setAf_a (s : State) (v : Word) :
    (s.setAf v).a = highByte v := rfl
@[simp] theorem State.setAf_f (s : State) (v : Word) :
    (s.setAf v).f = lowByte v &&& 0xF0#8 := rfl
@[simp] theorem State.setAf_b (s : State) (v : Word) :
    (s.setAf v).b = s.b := rfl
@[simp] theorem State.setAf_c (s : State) (v : Word) :
    (s.setAf v).c = s.c := rfl
@[simp] theorem State.setAf_d (s : State) (v : Word) :
    (s.setAf v).d = s.d := rfl
@[simp] theorem State.setAf_e (s : State) (v : Word) :
    (s.setAf v).e = s.e := rfl
@[simp] theorem State.setAf_h (s : State) (v : Word) :
    (s.setAf v).h = s.h := rfl
@[simp] theorem State.setAf_l (s : State) (v : Word) :
    (s.setAf v).l = s.l := rfl
@[simp] theorem State.setAf_pc (s : State) (v : Word) :
    (s.setAf v).pc = s.pc := rfl
@[simp] theorem State.setAf_sp (s : State) (v : Word) :
    (s.setAf v).sp = s.sp := rfl
@[simp] theorem State.setAf_ime (s : State) (v : Word) :
    (s.setAf v).ime = s.ime := rfl
@[simp] theorem State.setAf_imep (s : State) (v : Word) :
    (s.setAf v).imep = s.imep := rfl
@[simp] theorem State.setAf_acc (s : State) (v : Word) :
    (s.setAf v).acc = s.acc := rfl
@[simp] theorem State.setAf_mem (s : State) (v : Word) :
    (s.setAf v).mem = s.mem := rfl
@[simp] theorem State.setAf_fatal (s : State) (v : Word) :
    (s.setAf v).fatal = s.fatal := rfl
@[simp] theorem State.setAf_cost (s : State) (v : Word) :
    (s.setAf v).cost = s.cost := rfl
@[simp] theorem State.setAf_frameReady (s : State) (v : Word) :
    (s.setAf v).frameReady = s.frameReady := rfl

/-! ### setPair -/

@[simp] theorem State.setPair_a (s : State) (p : Pair) (v : Word) :
    (s.setPair p v).a = s.a := by
  cases p <;> rfl
@[simp] theorem State.setPair_f (s : State) (p : Pair) (v : Word) :
    (s.setPair p v).f = s.f := by
  cases p <;> rfl
@[simp] theorem State.setPair_pc (s : State) (p : Pair) (v : Word) :
    (s.setPair p v).pc = s.pc := by
  cases p <;> rfl
@[simp] theorem State.setPair_ime (s : State) (p : Pair) (v : Word) :
    (s.setPair p v).ime = s.ime := by
  cases p <;> rfl
@[simp] theorem State.setPair_imep (s : State) (p : Pair) (v : Word) :
    (s.setPair p v).imep = s.imep := by
  cases p <;> rfl
@[simp] theorem State.setPair_acc (s : State) (p : Pair) (v : Word) :
    (s.setPair p v).acc = s.acc := by
  cases p <;> rfl
@[simp] theorem State.setPair_mem (s : State) (p : Pair) (v : Word) :
    (s.setPair p v).mem = s.mem := by
  cases p <;> rfl
@[simp] theorem State.setPair_fatal (s : State) (p : Pair) (v : Word) :
    (s.setPair p v).fatal = s.fatal := by
  cases p <;> rfl
@[simp] theorem State.setPair_cost (s : State) (p : Pair) (v : Word) :
    (s.setPair p v).cost = s.cost := by
  cases p <;> rfl
@[simp] theorem State.setPair_frameReady (s : State) (p : Pair) (v : Word) :
    (s.setPair p v).frameReady = s.frameReady := by
  cases p <;> rfl

/-! ### setStackPair -/

@[simp] theorem State.setStackPair_pc (s : State) (p : StackPair) (v : Word) :
    (s.setStackPair p v).pc = s.pc := by
  cases p <;> rfl
@[simp] theorem State.setStackPair_sp (s : State) (p : StackPair) (v : Word) :
    (s.setStackPair p v).sp = s.sp := by
  cases p <;> rfl
@[simp] theorem State.setStackPair_ime (s : State) (p : StackPair) (v : Word) :
    (s.setStackPair p v).ime = s.ime := by
  cases p <;> rfl
@[simp] theorem State.setStackPair_imep (s : State) (p : StackPair) (v : Word) :
    (s.setStackPair p v).imep = s.imep := by
  cases p <;> rfl
@[simp] theorem State.setStackPair_acc (s : State) (p : StackPair) (v : Word) :
    (s.setStackPair p v).acc = s.acc := by
  cases p <;> rfl
@[simp] theorem State.setStackPair_mem (s : State) (p : StackPair) (v : Word) :
    (s.setStackPair p v).mem = s.mem := by
  cases p <;> rfl
@[simp] theorem State.setStackPair_fatal (s : State) (p : StackPair) (v : Word) :
    (s.setStackPair p v).fatal = s.fatal := by
  cases p <;> rfl
@[simp] theorem State.setStackPair_cost (s : State) (p : StackPair) (v : Word) :
    (s.setStackPair p v).cost = s.cost := by
  cases p <;> rfl
@[simp] theorem State.setStackPair_frameReady (s : State) (p : StackPair) (v : Word) :
    (s.setStackPair p v).frameReady = s.frameReady := by
  cases p <;> rfl

/-! ### writeByte -/

@[simp] theorem State.writeByte_a (s : State) (x : Word) (v : Byte) :
    (s.writeByte x v).a = s.a := rfl
@[simp] theorem State.writeByte_f (s : State) (x : Word) (v : Byte) :
    (s.writeByte x v).f = s.f := rfl
@[simp] theorem State.writeByte_b (s : State) (x : Word) (v : Byte) :
    (s.writeByte x v).b = s.b := rfl
@[simp] theorem State.writeByte_c (s : State) (x : Word) (v : Byte) :
    (s.writeByte x v).c = s.c := rfl
@[simp] theorem State.writeByte_d (s : State) (x : Word) (v : Byte) :
    (s.writeByte x v).d = s.d := rfl
@[simp] theorem State.writeByte_e (s : State) (x : Word) (v : Byte) :
    (s.writeByte x v).e = s.e := rfl
@[simp] theorem State.writeByte_h (s : State) (x : Word) (v : Byte) :
    (s.writeByte x v).h = s.h := rfl
@[simp] theorem State.writeByte_l (s : State) (x : Word) (v : Byte) :
    (s.writeByte x v).l = s.l := rfl
@[simp] theorem State.writeByte_pc (s : State) (x : Word) (v : Byte) :
    (s.writeByte x v).pc = s.pc := rfl
@[simp] theorem State.writeByte_sp (s : State) (x : Word) (v : Byte) :
    (s.writeByte x v).sp = s.sp := rfl
@[simp] theorem State.writeByte_ime (s : State) (x : Word) (v : Byte) :
    (s.writeByte x v).ime = s.ime := rfl
@[simp] theorem State.writeByte_imep (s : State) (x : Word) (v : Byte) :
    (s.writeByte x v).imep = s.imep := rfl
@[simp] theorem State.writeByte_acc (s : State) (x : Word) (v : Byte) :
    (s.writeByte x v).acc = s.acc := rfl
@[simp] theorem State.writeByte_mem (s : State) (x : Word) (v : Byte) :
    (s.writeByte x v).mem = s.mem.set x.toNat v := rfl
@[simp] theorem State.writeByte_fatal (s : State) (x : Word) (v : Byte) :
    (s.writeByte x v).fatal = s.fatal := rfl
@[simp] theorem State.writeByte_cost (s : State) (x : Word) (v : Byte) :
    (s.writeByte x v).cost = s.cost := rfl
@[simp] theorem State.writeByte_frameReady (s : State) (x : Word) (v : Byte) :
    (s.writeByte x v).frameReady = s.frameReady := rfl

/-! ### writeWord -/

@[simp] theorem State.writeWord_a (s : State) (x v : Word) :
    (s.writeWord x v).a = s.a := rfl
@[simp] theorem State.writeWord_f (s : State) (x v : Word) :
    (s.writeWord x v).f = s.f := rfl
@[simp] theorem State.writeWord_b (s : State) (x v : Word) :
    (s.writeWord x v).b = s.b := rfl
@[simp] theorem State.writeWord_c (s : State) (x v : Word) :
    (s.writeWord x v).c = s.c := rfl
@[simp] theorem State.writeWord_d (s : State) (x v : Word) :
    (s.writeWord x v).d = s.d := rfl
@[simp] theorem State.writeWord_e (s : State) (x v : Word) :
    (s.writeWord x v).e = s.e := rfl
@[simp] theorem State.writeWord_h (s : State) (x v : Word) :
    (s.writeWord x v).h = s.h := rfl
@[simp] theorem State.writeWord_l (s : State) (x v : Word) :
    (s.writeWord x v).l = s.l := rfl
@[simp] theorem State.writeWord_pc (s : State) (x v : Word) :
    (s.writeWord x v).pc = s.pc := rfl
@[simp] theorem State.writeWord_sp (s : State) (x v : Word) :
    (s.writeWord x v).sp = s.sp := rfl
@[simp] theorem State.writeWord_ime (s : State) (x v : Word) :
    (s.writeWord x v).ime = s.ime := rfl
@[simp] theorem State.writeWord_imep (s : State) (x v : Word) :
    (s.writeWord x v).imep = s.imep := rfl
@[simp] theorem State.writeWord_acc (s : State) (x v : Word) :
    (s.writeWord x v).acc = s.acc := rfl
@[simp] theorem State.writeWord_mem (s : State) (x v : Word) :
    (s.writeWord x v).mem = (s.mem.set x.toNat (lowByte v)).set (x + 1).toNat (highByte v) := rfl
@[simp] theorem State.writeWord_fatal (s : State) (x v : Word) :
    (s.writeWord x v).fatal = s.fatal := rfl
@[simp] theorem State.writeWord_cost (s : State) (x v : Word) :
    (s.writeWord x v).cost = s.cost := rfl
@[simp] theorem State.writeWord_frameReady (s : State) (x v : Word) :
    (s.writeWord x v).frameReady = s.frameReady := rfl

/-! ### push16 -/

@[simp] theorem State.push16_a (s : State) (v : Word) :
    (s.push16 v).a = s.a := rfl
@[simp] theorem State.push16_f (s : State) (v : Word) :
    (s.push16 v).f = s.f := rfl
@[simp] theorem State.push16_b (s : State) (v : Word) :
    (s.push16 v).b = s.b := rfl
@[simp] theorem State.push16_c (s : State) (v : Word) :
    (s.push16 v).c = s.c := rfl
@[simp] theorem State.push16_d (s : State) (v : Word) :
    (s.push16 v).d = s.d := rfl
@[simp] theorem State.push16_e (s : State) (v : Word) :
    (s.push16 v).e = s.e := rfl
@[simp] theorem State.push16_h (s : State) (v : Word) :
    (s.push16 v).h = s.h := rfl
@[simp] theorem State.push16_l (s : State) (v : Word) :
    (s.push16 v).l = s.l := rfl
@[simp] theorem State.push16_pc (s : State) (v : Word) :
    (s.push16 v).pc = s.pc := rfl
@[simp] theorem State.push16_sp (s : State) (v : Word) :
    (s.push16 v).sp = s.sp - 2 := rfl
@[simp] theorem State.push16_ime (s : State) (v : Word) :
    (s.push16 v).ime = s.ime := rfl
@[simp] theorem State.push16_imep (s : State) (v : Word) :
    (s.push16 v).imep = s.imep := rfl
@[simp] theorem State.push16_acc (s : State) (v : Word) :
    (s.push16 v).acc = s.acc := rfl
@[simp] theorem State.push16_mem (s : State) (v : Word) :
    (s.push16 v).mem = (s.mem.set (s.sp - 2).toNat (lowByte v)).set (s.sp - 2 + 1).toNat (highByte v) := rfl
@[simp] theorem State.push16_fatal (s : State) (v : Word) :
    (s.push16 v).fatal = s.fatal := rfl
@[simp] theorem State.push16_cost (s : State) (v : Word) :
    (s.push16 v).cost = s.cost := rfl
@[simp] theorem State.push16_frameReady (s : State) (v : Word) :
    (s.push16 v).frameReady = s.frameReady := rfl

/-! ### popState -/

@[simp] theorem State.popState_a (s : State) :
    (s.popState).a = s.a := rfl
@[simp] theorem State.popState_f (s : State) :
    (s.popState).f = s.f := rfl
@[simp] theorem State.popState_b (s : State) :
    (s.popState).b = s.b := rfl
@[simp] theorem State.popState_c (s : State) :
    (s.popState).c = s.c := rfl
@[simp] theorem State.popState_d (s : State) :
    (s.popState).d = s.d := rfl
@[simp] theorem State.popState_e (s : State) :
    (s.popState).e = s.e := rfl
@[simp] theorem State.popState_h (s : State) :
    (s.popState).h = s.h := rfl
@[simp] theorem State.popState_l (s : State) :
    (s.popState).l = s.l := rfl
@[simp] theorem State.popState_pc (s : State) :
    (s.popState).pc = s.pc := rfl
@[simp] theorem State.popState_sp (s : State) :
    (s.popState).sp = s.sp + 2 := rfl
@[simp] theorem State.popState_ime (s : State) :
    (s.popState).ime = s.ime := rfl
@[simp] theorem State.popState_imep (s : State) :
    (s.popState).imep = s.imep := rfl
@[simp] theorem State.popState_acc (s : State) :
    (s.popState).acc = s.acc := rfl
@[simp] theorem State.popState_mem (s : State) :
    (s.popState).mem = s.mem := rfl
@[simp] theorem State.popState_fatal (s : State) :
    (s.popState).fatal = s.fatal := rfl
@[simp] theorem State.popState_cost (s : State) :
    (s.popState).cost = s.cost := rfl
@[simp] theorem State.popState_frameReady (s : State) :
    (s.popState).frameReady = s.frameReady := rfl

/-! ### fetchState8 -/

@[simp] theorem State.fetchState8_a (s : State) :
    (s.fetchState8).a = s.a := rfl
@[simp] theorem State.fetchState8_f (s : State) :
    (s.fetchState8).f = s.f := rfl
@[simp] theorem State.fetchState8_b (s : State) :
    (s.fetchState8).b = s.b := rfl
@[simp] theorem State.fetchState8_c (s : State) :
    (s.fetchState8).c = s.c := rfl
@[simp] theorem State.fetchState8_d (s : State) :
    (s.fetchState8).d = s.d := rfl
@[simp] theorem State.fetchState8_e (s : State) :
    (s.fetchState8).e = s.e := rfl
@[simp] theorem State.fetchState8_h (s : State) :
    (s.fetchState8).h = s.h := rfl
@[simp] theorem State.fetchState8_l (s : State) :
    (s.fetchState8).l = s.l := rfl
@[simp] theorem State.fetchState8_pc (s : State) :
    (s.fetchState8).pc = s.pc + 1 := rfl
@[simp] theorem State.fetchState8_sp (s : State) :
    (s.fetchState8).sp = s.sp := rfl
@[simp] theorem State.fetchState8_ime (s : State) :
    (s.fetchState8).ime = s.ime := rfl
@[simp] theorem State.fetchState8_imep (s : State) :
    (s.fetchState8).imep = s.imep := rfl
@[simp] theorem State.fetchState8_acc (s : State) :
    (s.fetchState8).acc = s.acc := rfl
@[simp] theorem State.fetchState8_mem (s : State) :
    (s.fetchState8).mem = s.mem := rfl
@[simp] theorem State.fetchState8_fatal (s : State) :
    (s.fetchState8).fatal = s.fatal := rfl
@[simp] theorem State.fetchState8_cost (s : State) :
    (s.fetchState8).cost = s.cost := rfl
@[simp] theorem State.fetchState8_frameReady (s : State) :
    (s.fetchState8).frameReady = s.frameReady := rfl

/-! ### fetchState16 -/

@[simp] theorem State.fetchState16_a (s : State) :
    (s.fetchState16).a = s.a := rfl
@[simp] theorem State.fetchState16_f (s : State) :
    (s.fetchState16).f = s.f := rfl
@[simp] theorem State.fetchState16_b (s : State) :
    (s.fetchState16).b = s.b := rfl
@[simp] theorem State.fetchState16_c (s : State) :
    (s.fetchState16).c = s.c := rfl
@[simp] theorem State.fetchState16_d (s : State) :
    (s.fetchState16).d = s.d := rfl
@[simp] theorem State.fetchState16_e (s : State) :
    (s.fetchState16).e = s.e := rfl
@[simp] theorem State.fetchState16_h (s : State) :
    (s.fetchState16).h = s.h := rfl
@[simp] theorem State.fetchState16_l (s : State) :
    (s.fetchState16).l = s.l := rfl
@[simp] theorem State.fetchState16_pc (s : State) :
    (s.fetchState16).pc = s.pc + 1 + 1 := rfl
@[simp] theorem State.fetchState16_sp (s : State) :
    (s.fetchState16).sp = s.sp := rfl
@[simp] theorem State.fetchState16_ime (s : State) :
    (s.fetchState16).ime = s.ime := rfl
@[simp] theorem State.fetchState16_imep (s : State) :
    (s.fetchState16).imep = s.imep := rfl
@[simp] theorem State.fetchState16_acc (s : State) :
    (s.fetchState16).acc = s.acc := rfl
@[simp] theorem State.fetchState16_mem (s : State) :
    (s.fetchState16).mem = s.mem := rfl
@[simp] theorem State.fetchState16_fatal (s : State) :
    (s.fetchState16).fatal = s.fatal := rfl
@[simp] theorem State.fetchState16_cost (s : State) :
    (s.fetchState16).cost = s.cost := rfl
@[simp] theorem State.fetchState16_frameReady (s : State) :
    (s.fetchState16).frameReady = s.frameReady := rfl

/-! ### armIme -/

@[simp] theorem State.armIme_a (s : State) (t : Bool) :
    (s.armIme t).a = s.a := rfl
@[simp] theorem State.armIme_f (s : State) (t : Bool) :
    (s.armIme t).f = s.f := rfl
@[simp] theorem State.armIme_b (s : State) (t : Bool) :
    (s.armIme t).b = s.b := rfl
@[simp] theorem State.armIme_c (s : State) (t : Bool) :
    (s.armIme t).c = s.c := rfl
@[simp] theorem State.armIme_d (s : State) (t : Bool) :
    (s.armIme t).d = s.d := rfl
@[simp] theorem State.armIme_e (s : State) (t : Bool) :
    (s.armIme t).e = s.e := rfl
@[simp] theorem State.armIme_h (s : State) (t : Bool) :
    (s.armIme t).h = s.h := rfl
@[simp] theorem State.armIme_l (s : State) (t : Bool) :
    (s.armIme t).l = s.l := rfl
@[simp] theorem State.armIme_pc (s : State) (t : Bool) :
    (s.armIme t).pc = s.pc := rfl
@[simp] theorem State.armIme_sp (s : State) (t : Bool) :
    (s.armIme t).sp = s.sp := rfl
@[simp] theorem State.armIme_ime (s : State) (t : Bool) :
    (s.armIme t).ime = s.ime := rfl
@[simp] theorem State.armIme_imep (s : State) (t : Bool) :
    (s.armIme t).imep = .armed t .two := rfl
@[simp] theorem State.armIme_acc (s : State) (t : Bool) :
    (s.armIme t).acc = s.acc := rfl
@[simp] theorem State.armIme_mem (s : State) (t : Bool) :
    (s.armIme t).mem = s.mem := rfl
@[simp] theorem State.armIme_fatal (s : State) (t : Bool) :
    (s.armIme t).fatal = s.fatal := rfl
@[simp] theorem State.armIme_cost (s : State) (t : Bool) :
    (s.armIme t).cost = s.cost := rfl
@[simp] theorem State.armIme_frameReady (s : State) (t : Bool) :
    (s.armIme t).frameReady = s.frameReady := rfl

/-! ### applyFlags -/

@[simp] theorem State.applyFlags_a (s : State) (r : FlagRec) :
    (s.applyFlags r).a = s.a := rfl
@[simp] theorem State.applyFlags_f (s : State) (r : FlagRec) :
    (s.applyFlags r).f = packFlags (r.z.getD s.flagZ) (r.n.getD s.flagN) (r.h.getD s.flagH) (r.c.getD s.flagC) := rfl
@[simp] theorem State.applyFlags_b (s : State) (r : FlagRec) :
    (s.applyFlags r).b = s.b := rfl
@[simp] theorem State.applyFlags_c (s : State) (r : FlagRec) :
    (s.applyFlags r).c = s.c := rfl
@[simp] theorem State.applyFlags_d (s : State) (r : FlagRec) :
    (s.applyFlags r).d = s.d := rfl
@[simp] theorem State.applyFlags_e (s : State) (r : FlagRec) :
    (s.applyFlags r).e = s.e := rfl
@[simp] theorem State.applyFlags_h (s : State) (r : FlagRec) :
    (s.applyFlags r).h = s.h := rfl
@[simp] theorem State.applyFlags_l (s : State) (r : FlagRec) :
    (s.applyFlags r).l = s.l := rfl
@[simp] theorem State.applyFlags_pc (s : State) (r : FlagRec) :
    (s.applyFlags r).pc = s.pc := rfl
@[simp] theorem State.applyFlags_sp (s : State) (r : FlagRec) :
    (s.applyFlags r).sp = s.sp := rfl
@[simp] theorem State.applyFlags_ime (s : State) (r : FlagRec) :
    (s.applyFlags r).ime = s.ime := rfl
@[simp] theorem State.applyFlags_imep (s : State) (r : FlagRec) :
    (s.applyFlags r).imep = s.imep := rfl
@[simp] theorem State.applyFlags_acc (s : State) (r : FlagRec) :
    (s.applyFlags r).acc = s.acc := rfl
@[simp] theorem State.applyFlags_mem (s : State) (r : FlagRec) :
    (s.applyFlags r).mem = s.mem := rfl
@[simp] theorem State.applyFlags_fatal (s : State) (r : FlagRec) :
    (s.applyFlags r).fatal = s.fatal := rfl
@[simp] theorem State.applyFlags_cost (s : State) (r : FlagRec) :
    (s.applyFlags r).cost = s.cost := rfl
@[simp] theorem State.applyFlags_frameReady (s : State) (r : FlagRec) :
    (s.applyFlags r).frameReady = s.frameReady := rfl

/-! ### advanceImeDelay -/

@[simp] theorem State.advanceImeDelay_a (s : State) :
    (s.advanceImeDelay).a = s.a := by
  unfold State.advanceImeDelay; split <;> rfl
@[simp] theorem State.advanceImeDelay_f (s : State) :
    (s.advanceImeDelay).f = s.f := by
  unfold State.advanceImeDelay; split <;> rfl
@[simp] theorem State.advanceImeDelay_b (s : State) :
    (s.advanceImeDelay).b = s.b := by
  unfold State.advanceImeDelay; split <;> rfl
@[simp] theorem State.advanceImeDelay_c (s : State) :
    (s.advanceImeDelay).c = s.c := by
  unfold State.advanceImeDelay; split <;> rfl
@[simp] theorem State.advanceImeDelay_d (s : State) :
    (s.advanceImeDelay).d = s.d := by
  unfold State.advanceImeDelay; split <;> rfl
@[simp] theorem State.advanceImeDelay_e (s : State) :
    (s.advanceImeDelay).e = s.e := by
  unfold State.advanceImeDelay; split <;> rfl
@[simp] theorem State.advanceImeDelay_h (s : State) :
    (s.advanceImeDelay).h = s.h := by
  unfold State.advanceImeDelay; split <;> rfl
@[simp] theorem State.advanceImeDelay_l (s : State) :
    (s.advanceImeDelay).l = s.l := by
  unfold State.advanceImeDelay; split <;> rfl
@[simp] theorem State.advanceImeDelay_pc (s : State) :
    (s.advanceImeDelay).pc = s.pc := by
  unfold State.advanceImeDelay; split <;> rfl
@[simp] theorem State.advanceImeDelay_sp (s : State) :
    (s.advanceImeDelay).sp = s.sp := by
  unfold State.advanceImeDelay; split <;> rfl
@[simp] theorem State.advanceImeDelay_acc (s : State) :
    (s.advanceImeDelay).acc = s.acc := by
  unfold State.advanceImeDelay; split <;> rfl
@[simp] theorem State.advanceImeDelay_mem (s : State) :
    (s.advanceImeDelay).mem = s.mem := by
  unfold State.advanceImeDelay; split <;> rfl
@[simp] theorem State.advanceImeDelay_fatal (s : State) :
    (s.advanceImeDelay).fatal = s.fatal := by
  unfold State.advanceImeDelay; split <;> rfl
@[simp] theorem State.advanceImeDelay_cost (s : State) :
    (s.advanceImeDelay).cost = s.cost := by
  unfold State.advanceImeDelay; split <;> rfl
@[simp] theorem State.advanceImeDelay_frameReady (s : State) :
    (s.advanceImeDelay).frameReady = s.frameReady := by
  unfold State.advanceImeDelay; split <;> rfl

/-! ### acknowledge -/

@[simp] theorem State.acknowledge_a (s : State) (b : Bool) :
    (s.acknowledge b).a = s.a := by
  cases b <;> rfl
@[simp] theorem State.acknowledge_f (s : State) (b : Bool) :
    (s.acknowledge b).f = s.f := by
  cases b <;> rfl
@[simp] theorem State.acknowledge_b (s : State) (b : Bool) :
    (s.acknowledge b).b = s.b := by
  cases b <;> rfl
@[simp] theorem State.acknowledge_c (s : State) (b : Bool) :
    (s.acknowledge b).c = s.c := by
  cases b <;> rfl
@[simp] theorem State.acknowledge_d (s : State) (b : Bool) :
    (s.acknowledge b).d = s.d := by
  cases b <;> rfl
@[simp] theorem State.acknowledge_e (s : State) (b : Bool) :
    (s.acknowledge b).e = s.e := by
  cases b <;> rfl
@[simp] theorem State.acknowledge_h (s : State) (b : Bool) :
    (s.acknowledge b).h = s.h := by
  cases b <;> rfl
@[simp] theorem State.acknowledge_l (s : State) (b : Bool) :
    (s.acknowledge b).l = s.l := by
  cases b <;> rfl
@[simp] theorem State.acknowledge_pc (s : State) (b : Bool) :
    (s.acknowledge b).pc = s.pc := by
  cases b <;> rfl
@[simp] theorem State.acknowledge_sp (s : State) (b : Bool) :
    (s.acknowledge b).sp = s.sp := by
  cases b <;> rfl
@[simp] theorem State.acknowledge_ime (s : State) (b : Bool) :
    (s.acknowledge b).ime = s.ime := by
  cases b <;> rfl
@[simp] theorem State.acknowledge_imep (s : State) (b : Bool) :
    (s.acknowledge b).imep = s.imep := by
  cases b <;> rfl
@[simp] theorem State.acknowledge_acc (s : State) (b : Bool) :
    (s.acknowledge b).acc = s.acc := by
  cases b <;> rfl
@[simp] theorem State.acknowledge_fatal (s : State) (b : Bool) :
    (s.acknowledge b).fatal = s.fatal := by
  cases b <;> rfl
@[simp] theorem State.acknowledge_cost (s : State) (b : Bool) :
    (s.acknowledge b).cost = s.cost := by
  cases b <;> rfl
@[simp] theorem State.acknowledge_frameReady (s : State) (b : Bool) :
    (s.acknowledge b).frameReady = s.frameReady := by
  cases b <;> rfl

/-! ### setOperand -/

@[simp] theorem State.setOperand_f (s : State) (o : Opnd8) (v : Byte) :
    (s.setOperand o v).f = s.f := by
  cases o with
  | reg r => cases r <;> rfl
  | indHl => rfl
@[simp] theorem State.setOperand_pc (s : State) (o : Opnd8) (v : Byte) :
    (s.setOperand o v).pc = s.pc := by
  cases o with
  | reg r => cases r <;> rfl
  | indHl => rfl
@[simp] theorem State.setOperand_sp (s : State) (o : Opnd8) (v : Byte) :
    (s.setOperand o v).sp = s.sp := by
  cases o with
  | reg r => cases r <;> rfl
  | indHl => rfl
@[simp] theorem State.setOperand_ime (s : State) (o : Opnd8) (v : Byte) :
    (s.setOperand o v).ime = s.ime := by
  cases o with
  | reg r => cases r <;> rfl
  | indHl => rfl
@[simp] theorem State.setOperand_imep (s : State) (o : Opnd8) (v : Byte) :
    (s.setOperand o v).imep = s.imep := by
  cases o with
  | reg r => cases r <;> rfl
  | indHl => rfl
@[simp] theorem State.setOperand_acc (s : State) (o : Opnd8) (v : Byte) :
    (s.setOperand o v).acc = s.acc := by
  cases o with
  | reg r => cases r <;> rfl
  | indHl => rfl
@[simp] theorem State.setOperand_fatal (s : State) (o : Opnd8) (v : Byte) :
    (s.setOperand o v).fatal = s.fatal := by
  cases o with
  | reg r => cases r <;> rfl
  | indHl => rfl
@[simp] theorem State.setOperand_cost (s : State) (o : Opnd8) (v : Byte) :
    (s.setOperand o v).cost = s.cost := by
  cases o with
  | reg r => cases r <;> rfl
  | indHl => rfl
@[simp] theorem State.setOperand_frameReady (s : State) (o : Opnd8) (v : Byte) :
    (s.setOperand o v).frameReady = s.frameReady := by
  cases o with
  | reg r => cases r <;> rfl
  | indHl => rfl

/-! ### afterAccess -/

@[simp] theorem State.afterAccess_a (s : State) (m : AddrMode) :
    (s.afterAccess m).a = s.a := by
  cases m <;> rfl
@[simp] theorem State.afterAccess_f (s : State) (m : AddrMode) :
    (s.afterAccess m).f = s.f := by
  cases m <;> rfl
@[simp] theorem State.afterAccess_b (s : State) (m : AddrMode) :
    (s.afterAccess m).b = s.b := by
  cases m <;> rfl
@[simp] theorem State.afterAccess_c (s : State) (m : AddrMode) :
    (s.afterAccess m).c = s.c := by
  cases m <;> rfl
@[simp] theorem State.afterAccess_d (s : State) (m : AddrMode) :
    (s.afterAccess m).d = s.d := by
  cases m <;> rfl
@[simp] theorem State.afterAccess_e (s : State) (m : AddrMode) :
    (s.afterAccess m).e = s.e := by
  cases m <;> rfl
@[simp] theorem State.afterAccess_pc (s : State) (m : AddrMode) :
    (s.afterAccess m).pc = s.pc := by
  cases m <;> rfl
@[simp] theorem State.afterAccess_sp (s : State) (m : AddrMode) :
    (s.afterAccess m).sp = s.sp := by
  cases m <;> rfl
@[simp] theorem State.afterAccess_ime (s : State) (m : AddrMode) :
    (s.afterAccess m).ime = s.ime := by
  cases m <;> rfl
@[simp] theorem State.afterAccess_imep (s : State) (m : AddrMode) :
    (s.afterAccess m).imep = s.imep := by
  cases m <;> rfl
@[simp] theorem State.afterAccess_acc (s : State) (m : AddrMode) :
    (s.afterAccess m).acc = s.acc := by
  cases m <;> rfl
@[simp] theorem State.afterAccess_mem (s : State) (m : AddrMode) :
    (s.afterAccess m).mem = s.mem := by
  cases m <;> rfl
@[simp] theorem State.afterAccess_fatal (s : State) (m : AddrMode) :
    (s.afterAccess m).fatal = s.fatal := by
  cases m <;> rfl
@[simp] theorem State.afterAccess_cost (s : State) (m : AddrMode) :
    (s.afterAccess m).cost = s.cost := by
  cases m <;> rfl
@[simp] theorem State.afterAccess_frameReady (s : State) (m : AddrMode) :
    (s.afterAccess m).frameReady = s.frameReady := by
  cases m <;> rfl

/-! ### Registers and pairs read back -/

@[simp] theorem State.reg_setReg_self (s : State) (r : Reg) (v : Byte) : (s.setReg r v).reg r = v := by
  cases r <;> rfl

theorem State.reg_setReg_ne (s : State) (v : Byte) {r q : Reg} (h : q ≠ r) : (s.setReg r v).reg q = s.reg q := by
  cases r <;> cases q <;> first | rfl | exact absurd rfl h

@[simp] theorem State.reg_applyFlags (s : State) (fr : FlagRec) (r : Reg) : (s.applyFlags fr).reg r = s.reg r := by
  cases r <;> rfl

@[simp] theorem State.reg_writeByte (s : State) (x : Word) (v : Byte) (r : Reg) : (s.writeByte x v).reg r = s.reg r := by
  cases r <;> rfl

end Sys2Proof.Machine
end

