-- ==== Sys2Proof/Laws/Ops.lean ====
section
/-! SUPPORT. What each shared operation over memory, stack and flags can do, said once: the bytes it changes, the value
it leaves there, and that memory stays canonical. -/

namespace Sys2Proof.Machine

/-! ### Memory -/

/-- Reading depends on memory alone. -/
theorem readByte_congr {s t : State} (h : t.mem = s.mem) (x : Word) : t.readByte x = s.readByte x := by
  simp only [State.readByte, h]

theorem readByte_writeByte_self {s : State} (h : s.memCanonical) (x : Word) (v : Byte) :
    (s.writeByte x v).readByte x = v :=
  Memory.get_set_self h x.toNat v

theorem readByte_writeByte_ne (s : State) {x y : Word} (v : Byte) (h : y ≠ x) :
    (s.writeByte x v).readByte y = s.readByte y :=
  Memory.get_set_ne s.mem v fun hn => h (BitVec.eq_of_toNat_eq hn)

theorem writeByte_memCanonical {s : State} (h : s.memCanonical) (x : Word) (v : Byte) : (s.writeByte x v).memCanonical :=
  Memory.set_wf h x.isLt v

theorem writeByte_memKeptBut (s : State) (x : Word) (v : Byte) : memKeptBut [x] s (s.writeByte x v) := fun y hy =>
  readByte_writeByte_ne s v (by simpa using hy)

/-- The address after a word's first byte is another address (20_memory.md R63). -/
theorem succ_ne (x : Word) : x + 1 ≠ x := by bv_omega

theorem writeWord_memCanonical {s : State} (h : s.memCanonical) (x v : Word) : (s.writeWord x v).memCanonical :=
  writeByte_memCanonical (writeByte_memCanonical h _ _) _ _

theorem readByte_writeWord_low {s : State} (h : s.memCanonical) (x v : Word) :
    (s.writeWord x v).readByte x = lowByte v := by
  rw [State.writeWord, readByte_writeByte_ne _ _ (succ_ne x).symm, readByte_writeByte_self h]

theorem readByte_writeWord_high {s : State} (h : s.memCanonical) (x v : Word) :
    (s.writeWord x v).readByte (x + 1) = highByte v :=
  readByte_writeByte_self (writeByte_memCanonical h _ _) _ _

theorem writeWord_memKeptBut (s : State) (x v : Word) : memKeptBut [x, x + 1] s (s.writeWord x v) := fun y hy => by
  simp only [List.mem_cons, List.not_mem_nil, or_false, not_or] at hy
  rw [State.writeWord, readByte_writeByte_ne _ _ hy.2, readByte_writeByte_ne _ _ hy.1]

/-! ### The stack -/

/-- `Push16` stores low byte first at the new SP (20_memory.md R67). -/
theorem readByte_push16_low {s : State} (h : s.memCanonical) (v : Word) : (s.push16 v).readByte (s.sp - 2) = lowByte v :=
  readByte_writeWord_low (s := { s with sp := s.sp - 2 }) h _ v

theorem readByte_push16_high {s : State} (h : s.memCanonical) (v : Word) :
    (s.push16 v).readByte (s.sp - 2 + 1) = highByte v :=
  readByte_writeWord_high (s := { s with sp := s.sp - 2 }) h _ v

theorem push16_memKeptBut (s : State) (v : Word) : memKeptBut s.stackSlot s (s.push16 v) :=
  writeWord_memKeptBut { s with sp := s.sp - 2 } (s.sp - 2) v

theorem push16_memCanonical {s : State} (h : s.memCanonical) (v : Word) : (s.push16 v).memCanonical :=
  writeWord_memCanonical (s := { s with sp := s.sp - 2 }) h _ v

/-- A word that is pushed is the word that is popped next (20_memory.md R68). -/
theorem popValue_push16 {s : State} (h : s.memCanonical) (v : Word) : (s.push16 v).popValue = v := by
  have hsp : (s.push16 v).sp = s.sp - 2 := rfl
  rw [State.popValue, State.readWord, hsp, readByte_push16_high h, readByte_push16_low h, wordOf_high_low]

/-! ### Operands -/

theorem setOperand_memCanonical {s : State} (h : s.memCanonical) (o : Opnd8) (v : Byte) :
    (s.setOperand o v).memCanonical := by
  cases o with
  | reg r => simpa [State.setOperand, State.memCanonical] using h
  | indHl => exact writeByte_memCanonical h _ _

theorem acknowledge_memCanonical {s : State} (h : s.memCanonical) (clears : Bool) : (s.acknowledge clears).memCanonical := by
  cases clears
  · exact h
  · exact writeByte_memCanonical h _ _

/-! ### Flags -/

/-- `ApplyFlags` leaves bits 3:0 of F zero (10_state.md R23, R24). -/
theorem applyFlags_flagsLowZero (s : State) (r : FlagRec) : (s.applyFlags r).flagsLowZero := packFlags_low _ _ _ _

/-- Loading AF leaves bits 3:0 of F zero (10_state.md R21). -/
theorem setAf_flagsLowZero (s : State) (v : Word) : (s.setAf v).flagsLowZero := and_low_mask _

/-! ### Interrupts -/

theorem dispatch_memCanonical {s : State} (h : s.memCanonical) : (dispatch s).memCanonical :=
  push16_memCanonical (acknowledge_memCanonical (s := { s with ime := false }) h _) _

/-- Advancing the delay changes IME and IMEP alone (60_exceptions.md R314). -/
theorem advanceImeDelay_eq (s : State) :
    s.advanceImeDelay = { s with ime := s.advanceImeDelay.ime, imep := s.advanceImeDelay.imep } := by
  unfold State.advanceImeDelay
  split
  · rfl
  · rfl
  · rfl

/-! ### The display timing unit -/

/-- What a pass of the scanline loop does to memory and the output: LY is stepped, and on line 144 the request bit is set
(60_exceptions.md R327, R328). -/
theorem scanline_cases (s : State) :
    (nextLine (s.readByte lyAddr) = vblankLine ∧ s.scanline.frameReady = true ∧
      s.scanline.mem = ((s.writeByte lyAddr (nextLine (s.readByte lyAddr))).writeByte ifAddr
        (s.readByte ifAddr ||| 0x01#8)).mem) ∨
    (nextLine (s.readByte lyAddr) ≠ vblankLine ∧ s.scanline.frameReady = s.frameReady ∧
      s.scanline.mem = (s.writeByte lyAddr (nextLine (s.readByte lyAddr))).mem) := by
  have hr : (s.writeByte lyAddr (nextLine (s.readByte lyAddr))).readByte ifAddr = s.readByte ifAddr :=
    readByte_writeByte_ne _ _ (by decide)
  rw [← hr]
  by_cases hv : nextLine (s.readByte lyAddr) = vblankLine
  · refine .inl ⟨hv, ?_, ?_⟩
    · simp only [State.scanline, if_pos hv, State.vblankEvent]
    · simp only [State.scanline, if_pos hv, State.vblankEvent]
      generalize linePeriod = n
      rfl
  · refine .inr ⟨hv, ?_, ?_⟩
    · simp only [State.scanline, if_neg hv]
      rfl
    · simp only [State.scanline, if_neg hv]

/-- A pass takes 456 from ACC and changes nothing else but memory and the output. -/
theorem scanline_eq (s : State) :
    s.scanline = { s with acc := s.acc - linePeriod, mem := s.scanline.mem, frameReady := s.scanline.frameReady } := by
  simp only [State.scanline, State.vblankEvent]
  generalize linePeriod = n
  split <;> rfl

theorem scanline_memCanonical {s : State} (h : s.memCanonical) : s.scanline.memCanonical := by
  have hw := writeByte_memCanonical h lyAddr (nextLine (s.readByte lyAddr))
  unfold State.memCanonical
  rcases scanline_cases s with ⟨-, -, hm⟩ | ⟨-, -, hm⟩
  · rw [hm]
    exact writeByte_memCanonical hw ifAddr (s.readByte ifAddr ||| 0x01#8)
  · rw [hm]
    exact hw

theorem scanline_memKeptBut (s : State) : memKeptBut [lyAddr, ifAddr] s s.scanline := fun x hx => by
  simp only [List.mem_cons, List.not_mem_nil, or_false, not_or] at hx
  have hw := readByte_writeByte_ne s (nextLine (s.readByte lyAddr)) hx.1
  rcases scanline_cases s with ⟨-, -, hm⟩ | ⟨-, -, hm⟩
  · rw [readByte_congr hm x, readByte_writeByte_ne _ _ hx.2, hw]
  · rw [readByte_congr hm x, hw]

/-- LY after a pass (60_exceptions.md R327). -/
theorem scanline_ly {s : State} (h : s.memCanonical) : s.scanline.readByte lyAddr = nextLine (s.readByte lyAddr) := by
  have hw := readByte_writeByte_self h lyAddr (nextLine (s.readByte lyAddr))
  have hne : lyAddr ≠ ifAddr := by decide
  rcases scanline_cases s with ⟨-, -, hm⟩ | ⟨-, -, hm⟩
  · rw [readByte_congr hm lyAddr, readByte_writeByte_ne _ _ hne, hw]
  · rw [readByte_congr hm lyAddr, hw]

/-- IF and the output after a pass: the request on line 144, else as before (60_exceptions.md R328). -/
theorem scanline_request {s : State} (h : s.memCanonical) :
    (nextLine (s.readByte lyAddr) = vblankLine ∧ s.scanline.readByte ifAddr = s.readByte ifAddr ||| 0x01#8 ∧
      s.scanline.frameReady = true) ∨
    (nextLine (s.readByte lyAddr) ≠ vblankLine ∧ s.scanline.readByte ifAddr = s.readByte ifAddr ∧
      s.scanline.frameReady = s.frameReady) := by
  have hw := writeByte_memCanonical h lyAddr (nextLine (s.readByte lyAddr))
  have hne : ifAddr ≠ lyAddr := by decide
  rcases scanline_cases s with ⟨hv, hf, hm⟩ | ⟨hv, hf, hm⟩
  · refine .inl ⟨hv, ?_, hf⟩
    rw [readByte_congr hm ifAddr, readByte_writeByte_self hw]
  · refine .inr ⟨hv, ?_, hf⟩
    rw [readByte_congr hm ifAddr, readByte_writeByte_ne _ _ hne]

theorem nextLine_toNat (ly : Byte) : (nextLine ly).toNat = (ly.toNat + 1) % 154 := by
  have := Nat.mod_lt (ly.toNat + 1) (show 0 < 154 by decide)
  simp only [nextLine, linesPerFrame, BitVec.toNat_ofNat]
  omega

theorem nextLine_eq_vblank (ly : Byte) : nextLine ly = vblankLine ↔ (ly.toNat + 1) % 154 = 144 := by
  rw [← BitVec.toNat_inj, nextLine_toNat]
  rfl

end Sys2Proof.Machine
end

