-- ==== Sys2Proof/Laws/PerInstr.lean ====
section
/-! SUPPORT. The family `EncodedForm`: what the encoder makes of each row. -/

namespace Sys2Proof.Laws.EncodedForm

/-- One to three bytes, beginning with the row's opcode byte (30_encoding.md R90, R91): the first byte alone decides the
length, and an extended row begins with 0xCB. -/
def Statement (i : Instr) : Prop :=
  1 ≤ i.length ∧ i.length ≤ 3 ∧
    ∃ o rest, encode i = o :: rest ∧
      match primary o with
      | .whole _ => rest.length = 0
      | .byte _ => rest.length = 1
      | .word _ => rest.length = 2
      | .ext => rest.length = 1

theorem nop : Statement (.nop) := ⟨by decide, by decide, _, _, rfl, rfl⟩
theorem ldBcD16 (d16 : Word) : Statement (.ldBcD16 d16) := ⟨Nat.le_of_ble_eq_true rfl, Nat.le_of_ble_eq_true rfl, _, _, rfl, rfl⟩
theorem ldIndBcA : Statement (.ldIndBcA) := ⟨by decide, by decide, _, _, rfl, rfl⟩
theorem incBc : Statement (.incBc) := ⟨by decide, by decide, _, _, rfl, rfl⟩
theorem incB : Statement (.incB) := ⟨by decide, by decide, _, _, rfl, rfl⟩
theorem decB : Statement (.decB) := ⟨by decide, by decide, _, _, rfl, rfl⟩
theorem ldBD8 (d8 : Byte) : Statement (.ldBD8 d8) := ⟨Nat.le_of_ble_eq_true rfl, Nat.le_of_ble_eq_true rfl, _, _, rfl, rfl⟩
theorem rlca : Statement (.rlca) := ⟨by decide, by decide, _, _, rfl, rfl⟩
theorem ldIndA16Sp (a16 : Word) : Statement (.ldIndA16Sp a16) := ⟨Nat.le_of_ble_eq_true rfl, Nat.le_of_ble_eq_true rfl, _, _, rfl, rfl⟩
theorem addHlBc : Statement (.addHlBc) := ⟨by decide, by decide, _, _, rfl, rfl⟩
theorem ldAIndBc : Statement (.ldAIndBc) := ⟨by decide, by decide, _, _, rfl, rfl⟩
theorem decBc : Statement (.decBc) := ⟨by decide, by decide, _, _, rfl, rfl⟩
theorem incC : Statement (.incC) := ⟨by decide, by decide, _, _, rfl, rfl⟩
theorem decC : Statement (.decC) := ⟨by decide, by decide, _, _, rfl, rfl⟩
theorem ldCD8 (d8 : Byte) : Statement (.ldCD8 d8) := ⟨Nat.le_of_ble_eq_true rfl, Nat.le_of_ble_eq_true rfl, _, _, rfl, rfl⟩
theorem rrca : Statement (.rrca) := ⟨by decide, by decide, _, _, rfl, rfl⟩
theorem stop : Statement (.stop) := ⟨by decide, by decide, _, _, rfl, rfl⟩
theorem ldDeD16 (d16 : Word) : Statement (.ldDeD16 d16) := ⟨Nat.le_of_ble_eq_true rfl, Nat.le_of_ble_eq_true rfl, _, _, rfl, rfl⟩
theorem ldIndDeA : Statement (.ldIndDeA) := ⟨by decide, by decide, _, _, rfl, rfl⟩
theorem incDe : Statement (.incDe) := ⟨by decide, by decide, _, _, rfl, rfl⟩
theorem incD : Statement (.incD) := ⟨by decide, by decide, _, _, rfl, rfl⟩
theorem decD : Statement (.decD) := ⟨by decide, by decide, _, _, rfl, rfl⟩
theorem ldDD8 (d8 : Byte) : Statement (.ldDD8 d8) := ⟨Nat.le_of_ble_eq_true rfl, Nat.le_of_ble_eq_true rfl, _, _, rfl, rfl⟩
theorem rla : Statement (.rla) := ⟨by decide, by decide, _, _, rfl, rfl⟩
theorem jrE8 (e8 : Byte) : Statement (.jrE8 e8) := ⟨Nat.le_of_ble_eq_true rfl, Nat.le_of_ble_eq_true rfl, _, _, rfl, rfl⟩
theorem addHlDe : Statement (.addHlDe) := ⟨by decide, by decide, _, _, rfl, rfl⟩
theorem ldAIndDe : Statement (.ldAIndDe) := ⟨by decide, by decide, _, _, rfl, rfl⟩
theorem decDe : Statement (.decDe) := ⟨by decide, by decide, _, _, rfl, rfl⟩
theorem incE : Statement (.incE) := ⟨by decide, by decide, _, _, rfl, rfl⟩
theorem decE : Statement (.decE) := ⟨by decide, by decide, _, _, rfl, rfl⟩
theorem ldED8 (d8 : Byte) : Statement (.ldED8 d8) := ⟨Nat.le_of_ble_eq_true rfl, Nat.le_of_ble_eq_true rfl, _, _, rfl, rfl⟩
theorem rra : Statement (.rra) := ⟨by decide, by decide, _, _, rfl, rfl⟩
theorem jrNzE8 (e8 : Byte) : Statement (.jrNzE8 e8) := ⟨Nat.le_of_ble_eq_true rfl, Nat.le_of_ble_eq_true rfl, _, _, rfl, rfl⟩
theorem ldHlD16 (d16 : Word) : Statement (.ldHlD16 d16) := ⟨Nat.le_of_ble_eq_true rfl, Nat.le_of_ble_eq_true rfl, _, _, rfl, rfl⟩
theorem ldIndHlIncA : Statement (.ldIndHlIncA) := ⟨by decide, by decide, _, _, rfl, rfl⟩
theorem incHl : Statement (.incHl) := ⟨by decide, by decide, _, _, rfl, rfl⟩
theorem incH : Statement (.incH) := ⟨by decide, by decide, _, _, rfl, rfl⟩
theorem decH : Statement (.decH) := ⟨by decide, by decide, _, _, rfl, rfl⟩
theorem ldHD8 (d8 : Byte) : Statement (.ldHD8 d8) := ⟨Nat.le_of_ble_eq_true rfl, Nat.le_of_ble_eq_true rfl, _, _, rfl, rfl⟩
theorem daa : Statement (.daa) := ⟨by decide, by decide, _, _, rfl, rfl⟩
theorem jrZE8 (e8 : Byte) : Statement (.jrZE8 e8) := ⟨Nat.le_of_ble_eq_true rfl, Nat.le_of_ble_eq_true rfl, _, _, rfl, rfl⟩
theorem addHlHl : Statement (.addHlHl) := ⟨by decide, by decide, _, _, rfl, rfl⟩
theorem ldAIndHlInc : Statement (.ldAIndHlInc) := ⟨by decide, by decide, _, _, rfl, rfl⟩
theorem decHl : Statement (.decHl) := ⟨by decide, by decide, _, _, rfl, rfl⟩
theorem incL : Statement (.incL) := ⟨by decide, by decide, _, _, rfl, rfl⟩
theorem decL : Statement (.decL) := ⟨by decide, by decide, _, _, rfl, rfl⟩
theorem ldLD8 (d8 : Byte) : Statement (.ldLD8 d8) := ⟨Nat.le_of_ble_eq_true rfl, Nat.le_of_ble_eq_true rfl, _, _, rfl, rfl⟩
theorem cpl : Statement (.cpl) := ⟨by decide, by decide, _, _, rfl, rfl⟩
theorem jrNcE8 (e8 : Byte) : Statement (.jrNcE8 e8) := ⟨Nat.le_of_ble_eq_true rfl, Nat.le_of_ble_eq_true rfl, _, _, rfl, rfl⟩
theorem ldSpD16 (d16 : Word) : Statement (.ldSpD16 d16) := ⟨Nat.le_of_ble_eq_true rfl, Nat.le_of_ble_eq_true rfl, _, _, rfl, rfl⟩
theorem ldIndHlDecA : Statement (.ldIndHlDecA) := ⟨by decide, by decide, _, _, rfl, rfl⟩
theorem incSp : Statement (.incSp) := ⟨by decide, by decide, _, _, rfl, rfl⟩
theorem incIndHl : Statement (.incIndHl) := ⟨by decide, by decide, _, _, rfl, rfl⟩
theorem decIndHl : Statement (.decIndHl) := ⟨by decide, by decide, _, _, rfl, rfl⟩
theorem ldIndHlD8 (d8 : Byte) : Statement (.ldIndHlD8 d8) := ⟨Nat.le_of_ble_eq_true rfl, Nat.le_of_ble_eq_true rfl, _, _, rfl, rfl⟩
theorem scf : Statement (.scf) := ⟨by decide, by decide, _, _, rfl, rfl⟩
theorem jrCE8 (e8 : Byte) : Statement (.jrCE8 e8) := ⟨Nat.le_of_ble_eq_true rfl, Nat.le_of_ble_eq_true rfl, _, _, rfl, rfl⟩
theorem addHlSp : Statement (.addHlSp) := ⟨by decide, by decide, _, _, rfl, rfl⟩
theorem ldAIndHlDec : Statement (.ldAIndHlDec) := ⟨by decide, by decide, _, _, rfl, rfl⟩
theorem decSp : Statement (.decSp) := ⟨by decide, by decide, _, _, rfl, rfl⟩
theorem incA : Statement (.incA) := ⟨by decide, by decide, _, _, rfl, rfl⟩
theorem decA : Statement (.decA) := ⟨by decide, by decide, _, _, rfl, rfl⟩
theorem ldAD8 (d8 : Byte) : Statement (.ldAD8 d8) := ⟨Nat.le_of_ble_eq_true rfl, Nat.le_of_ble_eq_true rfl, _, _, rfl, rfl⟩
theorem ccf : Statement (.ccf) := ⟨by decide, by decide, _, _, rfl, rfl⟩
theorem ldBB : Statement (.ldBB) := ⟨by decide, by decide, _, _, rfl, rfl⟩
theorem ldBC : Statement (.ldBC) := ⟨by decide, by decide, _, _, rfl, rfl⟩
theorem ldBD : Statement (.ldBD) := ⟨by decide, by decide, _, _, rfl, rfl⟩
theorem ldBE : Statement (.ldBE) := ⟨by decide, by decide, _, _, rfl, rfl⟩
theorem ldBH : Statement (.ldBH) := ⟨by decide, by decide, _, _, rfl, rfl⟩
theorem ldBL : Statement (.ldBL) := ⟨by decide, by decide, _, _, rfl, rfl⟩
theorem ldBIndHl : Statement (.ldBIndHl) := ⟨by decide, by decide, _, _, rfl, rfl⟩
theorem ldBA : Statement (.ldBA) := ⟨by decide, by decide, _, _, rfl, rfl⟩
theorem ldCB : Statement (.ldCB) := ⟨by decide, by decide, _, _, rfl, rfl⟩
theorem ldCC : Statement (.ldCC) := ⟨by decide, by decide, _, _, rfl, rfl⟩
theorem ldCD : Statement (.ldCD) := ⟨by decide, by decide, _, _, rfl, rfl⟩
theorem ldCE : Statement (.ldCE) := ⟨by decide, by decide, _, _, rfl, rfl⟩
theorem ldCH : Statement (.ldCH) := ⟨by decide, by decide, _, _, rfl, rfl⟩
theorem ldCL : Statement (.ldCL) := ⟨by decide, by decide, _, _, rfl, rfl⟩
theorem ldCIndHl : Statement (.ldCIndHl) := ⟨by decide, by decide, _, _, rfl, rfl⟩
theorem ldCA : Statement (.ldCA) := ⟨by decide, by decide, _, _, rfl, rfl⟩
theorem ldDB : Statement (.ldDB) := ⟨by decide, by decide, _, _, rfl, rfl⟩
theorem ldDC : Statement (.ldDC) := ⟨by decide, by decide, _, _, rfl, rfl⟩
theorem ldDD : Statement (.ldDD) := ⟨by decide, by decide, _, _, rfl, rfl⟩
theorem ldDE : Statement (.ldDE) := ⟨by decide, by decide, _, _, rfl, rfl⟩
theorem ldDH : Statement (.ldDH) := ⟨by decide, by decide, _, _, rfl, rfl⟩
theorem ldDL : Statement (.ldDL) := ⟨by decide, by decide, _, _, rfl, rfl⟩
theorem ldDIndHl : Statement (.ldDIndHl) := ⟨by decide, by decide, _, _, rfl, rfl⟩
theorem ldDA : Statement (.ldDA) := ⟨by decide, by decide, _, _, rfl, rfl⟩
theorem ldEB : Statement (.ldEB) := ⟨by decide, by decide, _, _, rfl, rfl⟩
theorem ldEC : Statement (.ldEC) := ⟨by decide, by decide, _, _, rfl, rfl⟩
theorem ldED : Statement (.ldED) := ⟨by decide, by decide, _, _, rfl, rfl⟩
theorem ldEE : Statement (.ldEE) := ⟨by decide, by decide, _, _, rfl, rfl⟩
theorem ldEH : Statement (.ldEH) := ⟨by decide, by decide, _, _, rfl, rfl⟩
theorem ldEL : Statement (.ldEL) := ⟨by decide, by decide, _, _, rfl, rfl⟩
theorem ldEIndHl : Statement (.ldEIndHl) := ⟨by decide, by decide, _, _, rfl, rfl⟩
theorem ldEA : Statement (.ldEA) := ⟨by decide, by decide, _, _, rfl, rfl⟩
theorem ldHB : Statement (.ldHB) := ⟨by decide, by decide, _, _, rfl, rfl⟩
theorem ldHC : Statement (.ldHC) := ⟨by decide, by decide, _, _, rfl, rfl⟩
theorem ldHD : Statement (.ldHD) := ⟨by decide, by decide, _, _, rfl, rfl⟩
theorem ldHE : Statement (.ldHE) := ⟨by decide, by decide, _, _, rfl, rfl⟩
theorem ldHH : Statement (.ldHH) := ⟨by decide, by decide, _, _, rfl, rfl⟩
theorem ldHL : Statement (.ldHL) := ⟨by decide, by decide, _, _, rfl, rfl⟩
theorem ldHIndHl : Statement (.ldHIndHl) := ⟨by decide, by decide, _, _, rfl, rfl⟩
theorem ldHA : Statement (.ldHA) := ⟨by decide, by decide, _, _, rfl, rfl⟩
theorem ldLB : Statement (.ldLB) := ⟨by decide, by decide, _, _, rfl, rfl⟩
theorem ldLC : Statement (.ldLC) := ⟨by decide, by decide, _, _, rfl, rfl⟩
theorem ldLD : Statement (.ldLD) := ⟨by decide, by decide, _, _, rfl, rfl⟩
theorem ldLE : Statement (.ldLE) := ⟨by decide, by decide, _, _, rfl, rfl⟩
theorem ldLH : Statement (.ldLH) := ⟨by decide, by decide, _, _, rfl, rfl⟩
theorem ldLL : Statement (.ldLL) := ⟨by decide, by decide, _, _, rfl, rfl⟩
theorem ldLIndHl : Statement (.ldLIndHl) := ⟨by decide, by decide, _, _, rfl, rfl⟩
theorem ldLA : Statement (.ldLA) := ⟨by decide, by decide, _, _, rfl, rfl⟩
theorem ldIndHlB : Statement (.ldIndHlB) := ⟨by decide, by decide, _, _, rfl, rfl⟩
theorem ldIndHlC : Statement (.ldIndHlC) := ⟨by decide, by decide, _, _, rfl, rfl⟩
theorem ldIndHlD : Statement (.ldIndHlD) := ⟨by decide, by decide, _, _, rfl, rfl⟩
theorem ldIndHlE : Statement (.ldIndHlE) := ⟨by decide, by decide, _, _, rfl, rfl⟩
theorem ldIndHlH : Statement (.ldIndHlH) := ⟨by decide, by decide, _, _, rfl, rfl⟩
theorem ldIndHlL : Statement (.ldIndHlL) := ⟨by decide, by decide, _, _, rfl, rfl⟩
theorem halt : Statement (.halt) := ⟨by decide, by decide, _, _, rfl, rfl⟩
theorem ldIndHlA : Statement (.ldIndHlA) := ⟨by decide, by decide, _, _, rfl, rfl⟩
theorem ldAB : Statement (.ldAB) := ⟨by decide, by decide, _, _, rfl, rfl⟩
theorem ldAC : Statement (.ldAC) := ⟨by decide, by decide, _, _, rfl, rfl⟩
theorem ldAD : Statement (.ldAD) := ⟨by decide, by decide, _, _, rfl, rfl⟩
theorem ldAE : Statement (.ldAE) := ⟨by decide, by decide, _, _, rfl, rfl⟩
theorem ldAH : Statement (.ldAH) := ⟨by decide, by decide, _, _, rfl, rfl⟩
theorem ldAL : Statement (.ldAL) := ⟨by decide, by decide, _, _, rfl, rfl⟩
theorem ldAIndHl : Statement (.ldAIndHl) := ⟨by decide, by decide, _, _, rfl, rfl⟩
theorem ldAA : Statement (.ldAA) := ⟨by decide, by decide, _, _, rfl, rfl⟩
theorem addB : Statement (.addB) := ⟨by decide, by decide, _, _, rfl, rfl⟩
theorem addC : Statement (.addC) := ⟨by decide, by decide, _, _, rfl, rfl⟩
theorem addD : Statement (.addD) := ⟨by decide, by decide, _, _, rfl, rfl⟩
theorem addE : Statement (.addE) := ⟨by decide, by decide, _, _, rfl, rfl⟩
theorem addH : Statement (.addH) := ⟨by decide, by decide, _, _, rfl, rfl⟩
theorem addL : Statement (.addL) := ⟨by decide, by decide, _, _, rfl, rfl⟩
theorem addIndHl : Statement (.addIndHl) := ⟨by decide, by decide, _, _, rfl, rfl⟩
theorem addA : Statement (.addA) := ⟨by decide, by decide, _, _, rfl, rfl⟩
theorem adcB : Statement (.adcB) := ⟨by decide, by decide, _, _, rfl, rfl⟩
theorem adcC : Statement (.adcC) := ⟨by decide, by decide, _, _, rfl, rfl⟩
theorem adcD : Statement (.adcD) := ⟨by decide, by decide, _, _, rfl, rfl⟩
theorem adcE : Statement (.adcE) := ⟨by decide, by decide, _, _, rfl, rfl⟩
theorem adcH : Statement (.adcH) := ⟨by decide, by decide, _, _, rfl, rfl⟩
theorem adcL : Statement (.adcL) := ⟨by decide, by decide, _, _, rfl, rfl⟩
theorem adcIndHl : Statement (.adcIndHl) := ⟨by decide, by decide, _, _, rfl, rfl⟩
theorem adcA : Statement (.adcA) := ⟨by decide, by decide, _, _, rfl, rfl⟩
theorem subB : Statement (.subB) := ⟨by decide, by decide, _, _, rfl, rfl⟩
theorem subC : Statement (.subC) := ⟨by decide, by decide, _, _, rfl, rfl⟩
theorem subD : Statement (.subD) := ⟨by decide, by decide, _, _, rfl, rfl⟩
theorem subE : Statement (.subE) := ⟨by decide, by decide, _, _, rfl, rfl⟩
theorem subH : Statement (.subH) := ⟨by decide, by decide, _, _, rfl, rfl⟩
theorem subL : Statement (.subL) := ⟨by decide, by decide, _, _, rfl, rfl⟩
theorem subIndHl : Statement (.subIndHl) := ⟨by decide, by decide, _, _, rfl, rfl⟩
theorem subA : Statement (.subA) := ⟨by decide, by decide, _, _, rfl, rfl⟩
theorem sbcB : Statement (.sbcB) := ⟨by decide, by decide, _, _, rfl, rfl⟩
theorem sbcC : Statement (.sbcC) := ⟨by decide, by decide, _, _, rfl, rfl⟩
theorem sbcD : Statement (.sbcD) := ⟨by decide, by decide, _, _, rfl, rfl⟩
theorem sbcE : Statement (.sbcE) := ⟨by decide, by decide, _, _, rfl, rfl⟩
theorem sbcH : Statement (.sbcH) := ⟨by decide, by decide, _, _, rfl, rfl⟩
theorem sbcL : Statement (.sbcL) := ⟨by decide, by decide, _, _, rfl, rfl⟩
theorem sbcIndHl : Statement (.sbcIndHl) := ⟨by decide, by decide, _, _, rfl, rfl⟩
theorem sbcA : Statement (.sbcA) := ⟨by decide, by decide, _, _, rfl, rfl⟩
theorem andB : Statement (.andB) := ⟨by decide, by decide, _, _, rfl, rfl⟩
theorem andC : Statement (.andC) := ⟨by decide, by decide, _, _, rfl, rfl⟩
theorem andD : Statement (.andD) := ⟨by decide, by decide, _, _, rfl, rfl⟩
theorem andE : Statement (.andE) := ⟨by decide, by decide, _, _, rfl, rfl⟩
theorem andH : Statement (.andH) := ⟨by decide, by decide, _, _, rfl, rfl⟩
theorem andL : Statement (.andL) := ⟨by decide, by decide, _, _, rfl, rfl⟩
theorem andIndHl : Statement (.andIndHl) := ⟨by decide, by decide, _, _, rfl, rfl⟩
theorem andA : Statement (.andA) := ⟨by decide, by decide, _, _, rfl, rfl⟩
theorem xorB : Statement (.xorB) := ⟨by decide, by decide, _, _, rfl, rfl⟩
theorem xorC : Statement (.xorC) := ⟨by decide, by decide, _, _, rfl, rfl⟩
theorem xorD : Statement (.xorD) := ⟨by decide, by decide, _, _, rfl, rfl⟩
theorem xorE : Statement (.xorE) := ⟨by decide, by decide, _, _, rfl, rfl⟩
theorem xorH : Statement (.xorH) := ⟨by decide, by decide, _, _, rfl, rfl⟩
theorem xorL : Statement (.xorL) := ⟨by decide, by decide, _, _, rfl, rfl⟩
theorem xorIndHl : Statement (.xorIndHl) := ⟨by decide, by decide, _, _, rfl, rfl⟩
theorem xorA : Statement (.xorA) := ⟨by decide, by decide, _, _, rfl, rfl⟩
theorem orB : Statement (.orB) := ⟨by decide, by decide, _, _, rfl, rfl⟩
theorem orC : Statement (.orC) := ⟨by decide, by decide, _, _, rfl, rfl⟩
theorem orD : Statement (.orD) := ⟨by decide, by decide, _, _, rfl, rfl⟩
theorem orE : Statement (.orE) := ⟨by decide, by decide, _, _, rfl, rfl⟩
theorem orH : Statement (.orH) := ⟨by decide, by decide, _, _, rfl, rfl⟩
theorem orL : Statement (.orL) := ⟨by decide, by decide, _, _, rfl, rfl⟩
theorem orIndHl : Statement (.orIndHl) := ⟨by decide, by decide, _, _, rfl, rfl⟩
theorem orA : Statement (.orA) := ⟨by decide, by decide, _, _, rfl, rfl⟩
theorem cpB : Statement (.cpB) := ⟨by decide, by decide, _, _, rfl, rfl⟩
theorem cpC : Statement (.cpC) := ⟨by decide, by decide, _, _, rfl, rfl⟩
theorem cpD : Statement (.cpD) := ⟨by decide, by decide, _, _, rfl, rfl⟩
theorem cpE : Statement (.cpE) := ⟨by decide, by decide, _, _, rfl, rfl⟩
theorem cpH : Statement (.cpH) := ⟨by decide, by decide, _, _, rfl, rfl⟩
theorem cpL : Statement (.cpL) := ⟨by decide, by decide, _, _, rfl, rfl⟩
theorem cpIndHl : Statement (.cpIndHl) := ⟨by decide, by decide, _, _, rfl, rfl⟩
theorem cpA : Statement (.cpA) := ⟨by decide, by decide, _, _, rfl, rfl⟩
theorem retNz : Statement (.retNz) := ⟨by decide, by decide, _, _, rfl, rfl⟩
theorem popBc : Statement (.popBc) := ⟨by decide, by decide, _, _, rfl, rfl⟩
theorem jpNzA16 (a16 : Word) : Statement (.jpNzA16 a16) := ⟨Nat.le_of_ble_eq_true rfl, Nat.le_of_ble_eq_true rfl, _, _, rfl, rfl⟩
theorem jpA16 (a16 : Word) : Statement (.jpA16 a16) := ⟨Nat.le_of_ble_eq_true rfl, Nat.le_of_ble_eq_true rfl, _, _, rfl, rfl⟩
theorem callNzA16 (a16 : Word) : Statement (.callNzA16 a16) := ⟨Nat.le_of_ble_eq_true rfl, Nat.le_of_ble_eq_true rfl, _, _, rfl, rfl⟩
theorem pushBc : Statement (.pushBc) := ⟨by decide, by decide, _, _, rfl, rfl⟩
theorem addD8 (d8 : Byte) : Statement (.addD8 d8) := ⟨Nat.le_of_ble_eq_true rfl, Nat.le_of_ble_eq_true rfl, _, _, rfl, rfl⟩
theorem rst00 : Statement (.rst00) := ⟨by decide, by decide, _, _, rfl, rfl⟩
theorem retZ : Statement (.retZ) := ⟨by decide, by decide, _, _, rfl, rfl⟩
theorem ret : Statement (.ret) := ⟨by decide, by decide, _, _, rfl, rfl⟩
theorem jpZA16 (a16 : Word) : Statement (.jpZA16 a16) := ⟨Nat.le_of_ble_eq_true rfl, Nat.le_of_ble_eq_true rfl, _, _, rfl, rfl⟩
theorem prefixCb (op2 : Byte) : Statement (.prefixCb op2) := ⟨Nat.le_of_ble_eq_true rfl, Nat.le_of_ble_eq_true rfl, _, _, rfl, rfl⟩
theorem callZA16 (a16 : Word) : Statement (.callZA16 a16) := ⟨Nat.le_of_ble_eq_true rfl, Nat.le_of_ble_eq_true rfl, _, _, rfl, rfl⟩
theorem callA16 (a16 : Word) : Statement (.callA16 a16) := ⟨Nat.le_of_ble_eq_true rfl, Nat.le_of_ble_eq_true rfl, _, _, rfl, rfl⟩
theorem adcD8 (d8 : Byte) : Statement (.adcD8 d8) := ⟨Nat.le_of_ble_eq_true rfl, Nat.le_of_ble_eq_true rfl, _, _, rfl, rfl⟩
theorem rst08 : Statement (.rst08) := ⟨by decide, by decide, _, _, rfl, rfl⟩
theorem retNc : Statement (.retNc) := ⟨by decide, by decide, _, _, rfl, rfl⟩
theorem popDe : Statement (.popDe) := ⟨by decide, by decide, _, _, rfl, rfl⟩
theorem jpNcA16 (a16 : Word) : Statement (.jpNcA16 a16) := ⟨Nat.le_of_ble_eq_true rfl, Nat.le_of_ble_eq_true rfl, _, _, rfl, rfl⟩
theorem unassignedD3 : Statement (.unassignedD3) := ⟨by decide, by decide, _, _, rfl, rfl⟩
theorem callNcA16 (a16 : Word) : Statement (.callNcA16 a16) := ⟨Nat.le_of_ble_eq_true rfl, Nat.le_of_ble_eq_true rfl, _, _, rfl, rfl⟩
theorem pushDe : Statement (.pushDe) := ⟨by decide, by decide, _, _, rfl, rfl⟩
theorem subD8 (d8 : Byte) : Statement (.subD8 d8) := ⟨Nat.le_of_ble_eq_true rfl, Nat.le_of_ble_eq_true rfl, _, _, rfl, rfl⟩
theorem rst10 : Statement (.rst10) := ⟨by decide, by decide, _, _, rfl, rfl⟩
theorem retC : Statement (.retC) := ⟨by decide, by decide, _, _, rfl, rfl⟩
theorem reti : Statement (.reti) := ⟨by decide, by decide, _, _, rfl, rfl⟩
theorem jpCA16 (a16 : Word) : Statement (.jpCA16 a16) := ⟨Nat.le_of_ble_eq_true rfl, Nat.le_of_ble_eq_true rfl, _, _, rfl, rfl⟩
theorem unassignedDB : Statement (.unassignedDB) := ⟨by decide, by decide, _, _, rfl, rfl⟩
theorem callCA16 (a16 : Word) : Statement (.callCA16 a16) := ⟨Nat.le_of_ble_eq_true rfl, Nat.le_of_ble_eq_true rfl, _, _, rfl, rfl⟩
theorem unassignedDD : Statement (.unassignedDD) := ⟨by decide, by decide, _, _, rfl, rfl⟩
theorem sbcD8 (d8 : Byte) : Statement (.sbcD8 d8) := ⟨Nat.le_of_ble_eq_true rfl, Nat.le_of_ble_eq_true rfl, _, _, rfl, rfl⟩
theorem rst18 : Statement (.rst18) := ⟨by decide, by decide, _, _, rfl, rfl⟩
theorem ldhA8A (a8 : Byte) : Statement (.ldhA8A a8) := ⟨Nat.le_of_ble_eq_true rfl, Nat.le_of_ble_eq_true rfl, _, _, rfl, rfl⟩
theorem popHl : Statement (.popHl) := ⟨by decide, by decide, _, _, rfl, rfl⟩
theorem ldIndCA : Statement (.ldIndCA) := ⟨by decide, by decide, _, _, rfl, rfl⟩
theorem unassignedE3 : Statement (.unassignedE3) := ⟨by decide, by decide, _, _, rfl, rfl⟩
theorem unassignedE4 : Statement (.unassignedE4) := ⟨by decide, by decide, _, _, rfl, rfl⟩
theorem pushHl : Statement (.pushHl) := ⟨by decide, by decide, _, _, rfl, rfl⟩
theorem andD8 (d8 : Byte) : Statement (.andD8 d8) := ⟨Nat.le_of_ble_eq_true rfl, Nat.le_of_ble_eq_true rfl, _, _, rfl, rfl⟩
theorem rst20 : Statement (.rst20) := ⟨by decide, by decide, _, _, rfl, rfl⟩
theorem addSpE8 (e8 : Byte) : Statement (.addSpE8 e8) := ⟨Nat.le_of_ble_eq_true rfl, Nat.le_of_ble_eq_true rfl, _, _, rfl, rfl⟩
theorem jpHl : Statement (.jpHl) := ⟨by decide, by decide, _, _, rfl, rfl⟩
theorem ldIndA16A (a16 : Word) : Statement (.ldIndA16A a16) := ⟨Nat.le_of_ble_eq_true rfl, Nat.le_of_ble_eq_true rfl, _, _, rfl, rfl⟩
theorem unassignedEB : Statement (.unassignedEB) := ⟨by decide, by decide, _, _, rfl, rfl⟩
theorem unassignedEC : Statement (.unassignedEC) := ⟨by decide, by decide, _, _, rfl, rfl⟩
theorem unassignedED : Statement (.unassignedED) := ⟨by decide, by decide, _, _, rfl, rfl⟩
theorem xorD8 (d8 : Byte) : Statement (.xorD8 d8) := ⟨Nat.le_of_ble_eq_true rfl, Nat.le_of_ble_eq_true rfl, _, _, rfl, rfl⟩
theorem rst28 : Statement (.rst28) := ⟨by decide, by decide, _, _, rfl, rfl⟩
theorem ldhAA8 (a8 : Byte) : Statement (.ldhAA8 a8) := ⟨Nat.le_of_ble_eq_true rfl, Nat.le_of_ble_eq_true rfl, _, _, rfl, rfl⟩
theorem popAf : Statement (.popAf) := ⟨by decide, by decide, _, _, rfl, rfl⟩
theorem ldAIndC : Statement (.ldAIndC) := ⟨by decide, by decide, _, _, rfl, rfl⟩
theorem di : Statement (.di) := ⟨by decide, by decide, _, _, rfl, rfl⟩
theorem unassignedF4 : Statement (.unassignedF4) := ⟨by decide, by decide, _, _, rfl, rfl⟩
theorem pushAf : Statement (.pushAf) := ⟨by decide, by decide, _, _, rfl, rfl⟩
theorem orD8 (d8 : Byte) : Statement (.orD8 d8) := ⟨Nat.le_of_ble_eq_true rfl, Nat.le_of_ble_eq_true rfl, _, _, rfl, rfl⟩
theorem rst30 : Statement (.rst30) := ⟨by decide, by decide, _, _, rfl, rfl⟩
theorem ldHlSpE8 (e8 : Byte) : Statement (.ldHlSpE8 e8) := ⟨Nat.le_of_ble_eq_true rfl, Nat.le_of_ble_eq_true rfl, _, _, rfl, rfl⟩
theorem ldSpHl : Statement (.ldSpHl) := ⟨by decide, by decide, _, _, rfl, rfl⟩
theorem ldAIndA16 (a16 : Word) : Statement (.ldAIndA16 a16) := ⟨Nat.le_of_ble_eq_true rfl, Nat.le_of_ble_eq_true rfl, _, _, rfl, rfl⟩
theorem ei : Statement (.ei) := ⟨by decide, by decide, _, _, rfl, rfl⟩
theorem unassignedFC : Statement (.unassignedFC) := ⟨by decide, by decide, _, _, rfl, rfl⟩
theorem unassignedFD : Statement (.unassignedFD) := ⟨by decide, by decide, _, _, rfl, rfl⟩
theorem cpD8 (d8 : Byte) : Statement (.cpD8 d8) := ⟨Nat.le_of_ble_eq_true rfl, Nat.le_of_ble_eq_true rfl, _, _, rfl, rfl⟩
theorem rst38 : Statement (.rst38) := ⟨by decide, by decide, _, _, rfl, rfl⟩
theorem rlcB : Statement (.rlcB) := ⟨by decide, by decide, _, _, rfl, rfl⟩
theorem rlcC : Statement (.rlcC) := ⟨by decide, by decide, _, _, rfl, rfl⟩
theorem rlcD : Statement (.rlcD) := ⟨by decide, by decide, _, _, rfl, rfl⟩
theorem rlcE : Statement (.rlcE) := ⟨by decide, by decide, _, _, rfl, rfl⟩
theorem rlcH : Statement (.rlcH) := ⟨by decide, by decide, _, _, rfl, rfl⟩
theorem rlcL : Statement (.rlcL) := ⟨by decide, by decide, _, _, rfl, rfl⟩
theorem rlcIndHl : Statement (.rlcIndHl) := ⟨by decide, by decide, _, _, rfl, rfl⟩
theorem rlcA : Statement (.rlcA) := ⟨by decide, by decide, _, _, rfl, rfl⟩
theorem rrcB : Statement (.rrcB) := ⟨by decide, by decide, _, _, rfl, rfl⟩
theorem rrcC : Statement (.rrcC) := ⟨by decide, by decide, _, _, rfl, rfl⟩
theorem rrcD : Statement (.rrcD) := ⟨by decide, by decide, _, _, rfl, rfl⟩
theorem rrcE : Statement (.rrcE) := ⟨by decide, by decide, _, _, rfl, rfl⟩
theorem rrcH : Statement (.rrcH) := ⟨by decide, by decide, _, _, rfl, rfl⟩
theorem rrcL : Statement (.rrcL) := ⟨by decide, by decide, _, _, rfl, rfl⟩
theorem rrcIndHl : Statement (.rrcIndHl) := ⟨by decide, by decide, _, _, rfl, rfl⟩
theorem rrcA : Statement (.rrcA) := ⟨by decide, by decide, _, _, rfl, rfl⟩
theorem rlB : Statement (.rlB) := ⟨by decide, by decide, _, _, rfl, rfl⟩
theorem rlC : Statement (.rlC) := ⟨by decide, by decide, _, _, rfl, rfl⟩
theorem rlD : Statement (.rlD) := ⟨by decide, by decide, _, _, rfl, rfl⟩
theorem rlE : Statement (.rlE) := ⟨by decide, by decide, _, _, rfl, rfl⟩
theorem rlH : Statement (.rlH) := ⟨by decide, by decide, _, _, rfl, rfl⟩
theorem rlL : Statement (.rlL) := ⟨by decide, by decide, _, _, rfl, rfl⟩
theorem rlIndHl : Statement (.rlIndHl) := ⟨by decide, by decide, _, _, rfl, rfl⟩
theorem rlA : Statement (.rlA) := ⟨by decide, by decide, _, _, rfl, rfl⟩
theorem rrB : Statement (.rrB) := ⟨by decide, by decide, _, _, rfl, rfl⟩
theorem rrC : Statement (.rrC) := ⟨by decide, by decide, _, _, rfl, rfl⟩
theorem rrD : Statement (.rrD) := ⟨by decide, by decide, _, _, rfl, rfl⟩
theorem rrE : Statement (.rrE) := ⟨by decide, by decide, _, _, rfl, rfl⟩
theorem rrH : Statement (.rrH) := ⟨by decide, by decide, _, _, rfl, rfl⟩
theorem rrL : Statement (.rrL) := ⟨by decide, by decide, _, _, rfl, rfl⟩
theorem rrIndHl : Statement (.rrIndHl) := ⟨by decide, by decide, _, _, rfl, rfl⟩
theorem rrA : Statement (.rrA) := ⟨by decide, by decide, _, _, rfl, rfl⟩
theorem slaB : Statement (.slaB) := ⟨by decide, by decide, _, _, rfl, rfl⟩
theorem slaC : Statement (.slaC) := ⟨by decide, by decide, _, _, rfl, rfl⟩
theorem slaD : Statement (.slaD) := ⟨by decide, by decide, _, _, rfl, rfl⟩
theorem slaE : Statement (.slaE) := ⟨by decide, by decide, _, _, rfl, rfl⟩
theorem slaH : Statement (.slaH) := ⟨by decide, by decide, _, _, rfl, rfl⟩
theorem slaL : Statement (.slaL) := ⟨by decide, by decide, _, _, rfl, rfl⟩
theorem slaIndHl : Statement (.slaIndHl) := ⟨by decide, by decide, _, _, rfl, rfl⟩
theorem slaA : Statement (.slaA) := ⟨by decide, by decide, _, _, rfl, rfl⟩
theorem sraB : Statement (.sraB) := ⟨by decide, by decide, _, _, rfl, rfl⟩
theorem sraC : Statement (.sraC) := ⟨by decide, by decide, _, _, rfl, rfl⟩
theorem sraD : Statement (.sraD) := ⟨by decide, by decide, _, _, rfl, rfl⟩
theorem sraE : Statement (.sraE) := ⟨by decide, by decide, _, _, rfl, rfl⟩
theorem sraH : Statement (.sraH) := ⟨by decide, by decide, _, _, rfl, rfl⟩
theorem sraL : Statement (.sraL) := ⟨by decide, by decide, _, _, rfl, rfl⟩
theorem sraIndHl : Statement (.sraIndHl) := ⟨by decide, by decide, _, _, rfl, rfl⟩
theorem sraA : Statement (.sraA) := ⟨by decide, by decide, _, _, rfl, rfl⟩
theorem swapB : Statement (.swapB) := ⟨by decide, by decide, _, _, rfl, rfl⟩
theorem swapC : Statement (.swapC) := ⟨by decide, by decide, _, _, rfl, rfl⟩
theorem swapD : Statement (.swapD) := ⟨by decide, by decide, _, _, rfl, rfl⟩
theorem swapE : Statement (.swapE) := ⟨by decide, by decide, _, _, rfl, rfl⟩
theorem swapH : Statement (.swapH) := ⟨by decide, by decide, _, _, rfl, rfl⟩
theorem swapL : Statement (.swapL) := ⟨by decide, by decide, _, _, rfl, rfl⟩
theorem swapIndHl : Statement (.swapIndHl) := ⟨by decide, by decide, _, _, rfl, rfl⟩
theorem swapA : Statement (.swapA) := ⟨by decide, by decide, _, _, rfl, rfl⟩
theorem srlB : Statement (.srlB) := ⟨by decide, by decide, _, _, rfl, rfl⟩
theorem srlC : Statement (.srlC) := ⟨by decide, by decide, _, _, rfl, rfl⟩
theorem srlD : Statement (.srlD) := ⟨by decide, by decide, _, _, rfl, rfl⟩
theorem srlE : Statement (.srlE) := ⟨by decide, by decide, _, _, rfl, rfl⟩
theorem srlH : Statement (.srlH) := ⟨by decide, by decide, _, _, rfl, rfl⟩
theorem srlL : Statement (.srlL) := ⟨by decide, by decide, _, _, rfl, rfl⟩
theorem srlIndHl : Statement (.srlIndHl) := ⟨by decide, by decide, _, _, rfl, rfl⟩
theorem srlA : Statement (.srlA) := ⟨by decide, by decide, _, _, rfl, rfl⟩
theorem bit0B : Statement (.bit0B) := ⟨by decide, by decide, _, _, rfl, rfl⟩
theorem bit0C : Statement (.bit0C) := ⟨by decide, by decide, _, _, rfl, rfl⟩
theorem bit0D : Statement (.bit0D) := ⟨by decide, by decide, _, _, rfl, rfl⟩
theorem bit0E : Statement (.bit0E) := ⟨by decide, by decide, _, _, rfl, rfl⟩
theorem bit0H : Statement (.bit0H) := ⟨by decide, by decide, _, _, rfl, rfl⟩
theorem bit0L : Statement (.bit0L) := ⟨by decide, by decide, _, _, rfl, rfl⟩
theorem bit0IndHl : Statement (.bit0IndHl) := ⟨by decide, by decide, _, _, rfl, rfl⟩
theorem bit0A : Statement (.bit0A) := ⟨by decide, by decide, _, _, rfl, rfl⟩
theorem bit1B : Statement (.bit1B) := ⟨by decide, by decide, _, _, rfl, rfl⟩
theorem bit1C : Statement (.bit1C) := ⟨by decide, by decide, _, _, rfl, rfl⟩
theorem bit1D : Statement (.bit1D) := ⟨by decide, by decide, _, _, rfl, rfl⟩
theorem bit1E : Statement (.bit1E) := ⟨by decide, by decide, _, _, rfl, rfl⟩
theorem bit1H : Statement (.bit1H) := ⟨by decide, by decide, _, _, rfl, rfl⟩
theorem bit1L : Statement (.bit1L) := ⟨by decide, by decide, _, _, rfl, rfl⟩
theorem bit1IndHl : Statement (.bit1IndHl) := ⟨by decide, by decide, _, _, rfl, rfl⟩
theorem bit1A : Statement (.bit1A) := ⟨by decide, by decide, _, _, rfl, rfl⟩
theorem bit2B : Statement (.bit2B) := ⟨by decide, by decide, _, _, rfl, rfl⟩
theorem bit2C : Statement (.bit2C) := ⟨by decide, by decide, _, _, rfl, rfl⟩
theorem bit2D : Statement (.bit2D) := ⟨by decide, by decide, _, _, rfl, rfl⟩
theorem bit2E : Statement (.bit2E) := ⟨by decide, by decide, _, _, rfl, rfl⟩
theorem bit2H : Statement (.bit2H) := ⟨by decide, by decide, _, _, rfl, rfl⟩
theorem bit2L : Statement (.bit2L) := ⟨by decide, by decide, _, _, rfl, rfl⟩
theorem bit2IndHl : Statement (.bit2IndHl) := ⟨by decide, by decide, _, _, rfl, rfl⟩
theorem bit2A : Statement (.bit2A) := ⟨by decide, by decide, _, _, rfl, rfl⟩
theorem bit3B : Statement (.bit3B) := ⟨by decide, by decide, _, _, rfl, rfl⟩
theorem bit3C : Statement (.bit3C) := ⟨by decide, by decide, _, _, rfl, rfl⟩
theorem bit3D : Statement (.bit3D) := ⟨by decide, by decide, _, _, rfl, rfl⟩
theorem bit3E : Statement (.bit3E) := ⟨by decide, by decide, _, _, rfl, rfl⟩
theorem bit3H : Statement (.bit3H) := ⟨by decide, by decide, _, _, rfl, rfl⟩
theorem bit3L : Statement (.bit3L) := ⟨by decide, by decide, _, _, rfl, rfl⟩
theorem bit3IndHl : Statement (.bit3IndHl) := ⟨by decide, by decide, _, _, rfl, rfl⟩
theorem bit3A : Statement (.bit3A) := ⟨by decide, by decide, _, _, rfl, rfl⟩
theorem bit4B : Statement (.bit4B) := ⟨by decide, by decide, _, _, rfl, rfl⟩
theorem bit4C : Statement (.bit4C) := ⟨by decide, by decide, _, _, rfl, rfl⟩
theorem bit4D : Statement (.bit4D) := ⟨by decide, by decide, _, _, rfl, rfl⟩
theorem bit4E : Statement (.bit4E) := ⟨by decide, by decide, _, _, rfl, rfl⟩
theorem bit4H : Statement (.bit4H) := ⟨by decide, by decide, _, _, rfl, rfl⟩
theorem bit4L : Statement (.bit4L) := ⟨by decide, by decide, _, _, rfl, rfl⟩
theorem bit4IndHl : Statement (.bit4IndHl) := ⟨by decide, by decide, _, _, rfl, rfl⟩
theorem bit4A : Statement (.bit4A) := ⟨by decide, by decide, _, _, rfl, rfl⟩
theorem bit5B : Statement (.bit5B) := ⟨by decide, by decide, _, _, rfl, rfl⟩
theorem bit5C : Statement (.bit5C) := ⟨by decide, by decide, _, _, rfl, rfl⟩
theorem bit5D : Statement (.bit5D) := ⟨by decide, by decide, _, _, rfl, rfl⟩
theorem bit5E : Statement (.bit5E) := ⟨by decide, by decide, _, _, rfl, rfl⟩
theorem bit5H : Statement (.bit5H) := ⟨by decide, by decide, _, _, rfl, rfl⟩
theorem bit5L : Statement (.bit5L) := ⟨by decide, by decide, _, _, rfl, rfl⟩
theorem bit5IndHl : Statement (.bit5IndHl) := ⟨by decide, by decide, _, _, rfl, rfl⟩
theorem bit5A : Statement (.bit5A) := ⟨by decide, by decide, _, _, rfl, rfl⟩
theorem bit6B : Statement (.bit6B) := ⟨by decide, by decide, _, _, rfl, rfl⟩
theorem bit6C : Statement (.bit6C) := ⟨by decide, by decide, _, _, rfl, rfl⟩
theorem bit6D : Statement (.bit6D) := ⟨by decide, by decide, _, _, rfl, rfl⟩
theorem bit6E : Statement (.bit6E) := ⟨by decide, by decide, _, _, rfl, rfl⟩
theorem bit6H : Statement (.bit6H) := ⟨by decide, by decide, _, _, rfl, rfl⟩
theorem bit6L : Statement (.bit6L) := ⟨by decide, by decide, _, _, rfl, rfl⟩
theorem bit6IndHl : Statement (.bit6IndHl) := ⟨by decide, by decide, _, _, rfl, rfl⟩
theorem bit6A : Statement (.bit6A) := ⟨by decide, by decide, _, _, rfl, rfl⟩
theorem bit7B : Statement (.bit7B) := ⟨by decide, by decide, _, _, rfl, rfl⟩
theorem bit7C : Statement (.bit7C) := ⟨by decide, by decide, _, _, rfl, rfl⟩
theorem bit7D : Statement (.bit7D) := ⟨by decide, by decide, _, _, rfl, rfl⟩
theorem bit7E : Statement (.bit7E) := ⟨by decide, by decide, _, _, rfl, rfl⟩
theorem bit7H : Statement (.bit7H) := ⟨by decide, by decide, _, _, rfl, rfl⟩
theorem bit7L : Statement (.bit7L) := ⟨by decide, by decide, _, _, rfl, rfl⟩
theorem bit7IndHl : Statement (.bit7IndHl) := ⟨by decide, by decide, _, _, rfl, rfl⟩
theorem bit7A : Statement (.bit7A) := ⟨by decide, by decide, _, _, rfl, rfl⟩
theorem res0B : Statement (.res0B) := ⟨by decide, by decide, _, _, rfl, rfl⟩
theorem res0C : Statement (.res0C) := ⟨by decide, by decide, _, _, rfl, rfl⟩
theorem res0D : Statement (.res0D) := ⟨by decide, by decide, _, _, rfl, rfl⟩
theorem res0E : Statement (.res0E) := ⟨by decide, by decide, _, _, rfl, rfl⟩
theorem res0H : Statement (.res0H) := ⟨by decide, by decide, _, _, rfl, rfl⟩
theorem res0L : Statement (.res0L) := ⟨by decide, by decide, _, _, rfl, rfl⟩
theorem res0IndHl : Statement (.res0IndHl) := ⟨by decide, by decide, _, _, rfl, rfl⟩
theorem res0A : Statement (.res0A) := ⟨by decide, by decide, _, _, rfl, rfl⟩
theorem res1B : Statement (.res1B) := ⟨by decide, by decide, _, _, rfl, rfl⟩
theorem res1C : Statement (.res1C) := ⟨by decide, by decide, _, _, rfl, rfl⟩
theorem res1D : Statement (.res1D) := ⟨by decide, by decide, _, _, rfl, rfl⟩
theorem res1E : Statement (.res1E) := ⟨by decide, by decide, _, _, rfl, rfl⟩
theorem res1H : Statement (.res1H) := ⟨by decide, by decide, _, _, rfl, rfl⟩
theorem res1L : Statement (.res1L) := ⟨by decide, by decide, _, _, rfl, rfl⟩
theorem res1IndHl : Statement (.res1IndHl) := ⟨by decide, by decide, _, _, rfl, rfl⟩
theorem res1A : Statement (.res1A) := ⟨by decide, by decide, _, _, rfl, rfl⟩
theorem res2B : Statement (.res2B) := ⟨by decide, by decide, _, _, rfl, rfl⟩
theorem res2C : Statement (.res2C) := ⟨by decide, by decide, _, _, rfl, rfl⟩
theorem res2D : Statement (.res2D) := ⟨by decide, by decide, _, _, rfl, rfl⟩
theorem res2E : Statement (.res2E) := ⟨by decide, by decide, _, _, rfl, rfl⟩
theorem res2H : Statement (.res2H) := ⟨by decide, by decide, _, _, rfl, rfl⟩
theorem res2L : Statement (.res2L) := ⟨by decide, by decide, _, _, rfl, rfl⟩
theorem res2IndHl : Statement (.res2IndHl) := ⟨by decide, by decide, _, _, rfl, rfl⟩
theorem res2A : Statement (.res2A) := ⟨by decide, by decide, _, _, rfl, rfl⟩
theorem res3B : Statement (.res3B) := ⟨by decide, by decide, _, _, rfl, rfl⟩
theorem res3C : Statement (.res3C) := ⟨by decide, by decide, _, _, rfl, rfl⟩
theorem res3D : Statement (.res3D) := ⟨by decide, by decide, _, _, rfl, rfl⟩
theorem res3E : Statement (.res3E) := ⟨by decide, by decide, _, _, rfl, rfl⟩
theorem res3H : Statement (.res3H) := ⟨by decide, by decide, _, _, rfl, rfl⟩
theorem res3L : Statement (.res3L) := ⟨by decide, by decide, _, _, rfl, rfl⟩
theorem res3IndHl : Statement (.res3IndHl) := ⟨by decide, by decide, _, _, rfl, rfl⟩
theorem res3A : Statement (.res3A) := ⟨by decide, by decide, _, _, rfl, rfl⟩
theorem res4B : Statement (.res4B) := ⟨by decide, by decide, _, _, rfl, rfl⟩
theorem res4C : Statement (.res4C) := ⟨by decide, by decide, _, _, rfl, rfl⟩
theorem res4D : Statement (.res4D) := ⟨by decide, by decide, _, _, rfl, rfl⟩
theorem res4E : Statement (.res4E) := ⟨by decide, by decide, _, _, rfl, rfl⟩
theorem res4H : Statement (.res4H) := ⟨by decide, by decide, _, _, rfl, rfl⟩
theorem res4L : Statement (.res4L) := ⟨by decide, by decide, _, _, rfl, rfl⟩
theorem res4IndHl : Statement (.res4IndHl) := ⟨by decide, by decide, _, _, rfl, rfl⟩
theorem res4A : Statement (.res4A) := ⟨by decide, by decide, _, _, rfl, rfl⟩
theorem res5B : Statement (.res5B) := ⟨by decide, by decide, _, _, rfl, rfl⟩
theorem res5C : Statement (.res5C) := ⟨by decide, by decide, _, _, rfl, rfl⟩
theorem res5D : Statement (.res5D) := ⟨by decide, by decide, _, _, rfl, rfl⟩
theorem res5E : Statement (.res5E) := ⟨by decide, by decide, _, _, rfl, rfl⟩
theorem res5H : Statement (.res5H) := ⟨by decide, by decide, _, _, rfl, rfl⟩
theorem res5L : Statement (.res5L) := ⟨by decide, by decide, _, _, rfl, rfl⟩
theorem res5IndHl : Statement (.res5IndHl) := ⟨by decide, by decide, _, _, rfl, rfl⟩
theorem res5A : Statement (.res5A) := ⟨by decide, by decide, _, _, rfl, rfl⟩
theorem res6B : Statement (.res6B) := ⟨by decide, by decide, _, _, rfl, rfl⟩
theorem res6C : Statement (.res6C) := ⟨by decide, by decide, _, _, rfl, rfl⟩
theorem res6D : Statement (.res6D) := ⟨by decide, by decide, _, _, rfl, rfl⟩
theorem res6E : Statement (.res6E) := ⟨by decide, by decide, _, _, rfl, rfl⟩
theorem res6H : Statement (.res6H) := ⟨by decide, by decide, _, _, rfl, rfl⟩
theorem res6L : Statement (.res6L) := ⟨by decide, by decide, _, _, rfl, rfl⟩
theorem res6IndHl : Statement (.res6IndHl) := ⟨by decide, by decide, _, _, rfl, rfl⟩
theorem res6A : Statement (.res6A) := ⟨by decide, by decide, _, _, rfl, rfl⟩
theorem res7B : Statement (.res7B) := ⟨by decide, by decide, _, _, rfl, rfl⟩
theorem res7C : Statement (.res7C) := ⟨by decide, by decide, _, _, rfl, rfl⟩
theorem res7D : Statement (.res7D) := ⟨by decide, by decide, _, _, rfl, rfl⟩
theorem res7E : Statement (.res7E) := ⟨by decide, by decide, _, _, rfl, rfl⟩
theorem res7H : Statement (.res7H) := ⟨by decide, by decide, _, _, rfl, rfl⟩
theorem res7L : Statement (.res7L) := ⟨by decide, by decide, _, _, rfl, rfl⟩
theorem res7IndHl : Statement (.res7IndHl) := ⟨by decide, by decide, _, _, rfl, rfl⟩
theorem res7A : Statement (.res7A) := ⟨by decide, by decide, _, _, rfl, rfl⟩
theorem set0B : Statement (.set0B) := ⟨by decide, by decide, _, _, rfl, rfl⟩
theorem set0C : Statement (.set0C) := ⟨by decide, by decide, _, _, rfl, rfl⟩
theorem set0D : Statement (.set0D) := ⟨by decide, by decide, _, _, rfl, rfl⟩
theorem set0E : Statement (.set0E) := ⟨by decide, by decide, _, _, rfl, rfl⟩
theorem set0H : Statement (.set0H) := ⟨by decide, by decide, _, _, rfl, rfl⟩
theorem set0L : Statement (.set0L) := ⟨by decide, by decide, _, _, rfl, rfl⟩
theorem set0IndHl : Statement (.set0IndHl) := ⟨by decide, by decide, _, _, rfl, rfl⟩
theorem set0A : Statement (.set0A) := ⟨by decide, by decide, _, _, rfl, rfl⟩
theorem set1B : Statement (.set1B) := ⟨by decide, by decide, _, _, rfl, rfl⟩
theorem set1C : Statement (.set1C) := ⟨by decide, by decide, _, _, rfl, rfl⟩
theorem set1D : Statement (.set1D) := ⟨by decide, by decide, _, _, rfl, rfl⟩
theorem set1E : Statement (.set1E) := ⟨by decide, by decide, _, _, rfl, rfl⟩
theorem set1H : Statement (.set1H) := ⟨by decide, by decide, _, _, rfl, rfl⟩
theorem set1L : Statement (.set1L) := ⟨by decide, by decide, _, _, rfl, rfl⟩
theorem set1IndHl : Statement (.set1IndHl) := ⟨by decide, by decide, _, _, rfl, rfl⟩
theorem set1A : Statement (.set1A) := ⟨by decide, by decide, _, _, rfl, rfl⟩
theorem set2B : Statement (.set2B) := ⟨by decide, by decide, _, _, rfl, rfl⟩
theorem set2C : Statement (.set2C) := ⟨by decide, by decide, _, _, rfl, rfl⟩
theorem set2D : Statement (.set2D) := ⟨by decide, by decide, _, _, rfl, rfl⟩
theorem set2E : Statement (.set2E) := ⟨by decide, by decide, _, _, rfl, rfl⟩
theorem set2H : Statement (.set2H) := ⟨by decide, by decide, _, _, rfl, rfl⟩
theorem set2L : Statement (.set2L) := ⟨by decide, by decide, _, _, rfl, rfl⟩
theorem set2IndHl : Statement (.set2IndHl) := ⟨by decide, by decide, _, _, rfl, rfl⟩
theorem set2A : Statement (.set2A) := ⟨by decide, by decide, _, _, rfl, rfl⟩
theorem set3B : Statement (.set3B) := ⟨by decide, by decide, _, _, rfl, rfl⟩
theorem set3C : Statement (.set3C) := ⟨by decide, by decide, _, _, rfl, rfl⟩
theorem set3D : Statement (.set3D) := ⟨by decide, by decide, _, _, rfl, rfl⟩
theorem set3E : Statement (.set3E) := ⟨by decide, by decide, _, _, rfl, rfl⟩
theorem set3H : Statement (.set3H) := ⟨by decide, by decide, _, _, rfl, rfl⟩
theorem set3L : Statement (.set3L) := ⟨by decide, by decide, _, _, rfl, rfl⟩
theorem set3IndHl : Statement (.set3IndHl) := ⟨by decide, by decide, _, _, rfl, rfl⟩
theorem set3A : Statement (.set3A) := ⟨by decide, by decide, _, _, rfl, rfl⟩
theorem set4B : Statement (.set4B) := ⟨by decide, by decide, _, _, rfl, rfl⟩
theorem set4C : Statement (.set4C) := ⟨by decide, by decide, _, _, rfl, rfl⟩
theorem set4D : Statement (.set4D) := ⟨by decide, by decide, _, _, rfl, rfl⟩
theorem set4E : Statement (.set4E) := ⟨by decide, by decide, _, _, rfl, rfl⟩
theorem set4H : Statement (.set4H) := ⟨by decide, by decide, _, _, rfl, rfl⟩
theorem set4L : Statement (.set4L) := ⟨by decide, by decide, _, _, rfl, rfl⟩
theorem set4IndHl : Statement (.set4IndHl) := ⟨by decide, by decide, _, _, rfl, rfl⟩
theorem set4A : Statement (.set4A) := ⟨by decide, by decide, _, _, rfl, rfl⟩
theorem set5B : Statement (.set5B) := ⟨by decide, by decide, _, _, rfl, rfl⟩
theorem set5C : Statement (.set5C) := ⟨by decide, by decide, _, _, rfl, rfl⟩
theorem set5D : Statement (.set5D) := ⟨by decide, by decide, _, _, rfl, rfl⟩
theorem set5E : Statement (.set5E) := ⟨by decide, by decide, _, _, rfl, rfl⟩
theorem set5H : Statement (.set5H) := ⟨by decide, by decide, _, _, rfl, rfl⟩
theorem set5L : Statement (.set5L) := ⟨by decide, by decide, _, _, rfl, rfl⟩
theorem set5IndHl : Statement (.set5IndHl) := ⟨by decide, by decide, _, _, rfl, rfl⟩
theorem set5A : Statement (.set5A) := ⟨by decide, by decide, _, _, rfl, rfl⟩
theorem set6B : Statement (.set6B) := ⟨by decide, by decide, _, _, rfl, rfl⟩
theorem set6C : Statement (.set6C) := ⟨by decide, by decide, _, _, rfl, rfl⟩
theorem set6D : Statement (.set6D) := ⟨by decide, by decide, _, _, rfl, rfl⟩
theorem set6E : Statement (.set6E) := ⟨by decide, by decide, _, _, rfl, rfl⟩
theorem set6H : Statement (.set6H) := ⟨by decide, by decide, _, _, rfl, rfl⟩
theorem set6L : Statement (.set6L) := ⟨by decide, by decide, _, _, rfl, rfl⟩
theorem set6IndHl : Statement (.set6IndHl) := ⟨by decide, by decide, _, _, rfl, rfl⟩
theorem set6A : Statement (.set6A) := ⟨by decide, by decide, _, _, rfl, rfl⟩
theorem set7B : Statement (.set7B) := ⟨by decide, by decide, _, _, rfl, rfl⟩
theorem set7C : Statement (.set7C) := ⟨by decide, by decide, _, _, rfl, rfl⟩
theorem set7D : Statement (.set7D) := ⟨by decide, by decide, _, _, rfl, rfl⟩
theorem set7E : Statement (.set7E) := ⟨by decide, by decide, _, _, rfl, rfl⟩
theorem set7H : Statement (.set7H) := ⟨by decide, by decide, _, _, rfl, rfl⟩
theorem set7L : Statement (.set7L) := ⟨by decide, by decide, _, _, rfl, rfl⟩
theorem set7IndHl : Statement (.set7IndHl) := ⟨by decide, by decide, _, _, rfl, rfl⟩
theorem set7A : Statement (.set7A) := ⟨by decide, by decide, _, _, rfl, rfl⟩

end Sys2Proof.Laws.EncodedForm
end

