-- ==== Sys2Proof/Machine/Regions.lean ====
section
/-! DEFINITION. The region classifier (20_memory.md R66): a diagnostic of the host's; no rule of the machine reads it. -/

namespace Sys2Proof.Machine

/-- The ten logical regions (R66; 90_conflicts.md C4 settles the count). -/
inductive Region where
  | rom
  | vram
  | externalRam
  | workRam
  | echoForbidden
  | oam
  | forbidden
  | ioRegisters
  | highRam
  | interruptEnable
deriving DecidableEq, Repr

/-- The region of an address (R66). -/
def region (addr : Word) : Region :=
  let a := addr.toNat
  if a ≤ 0x7FFF then .rom
  else if a ≤ 0x9FFF then .vram
  else if a ≤ 0xBFFF then .externalRam
  else if a ≤ 0xDFFF then .workRam
  else if a ≤ 0xFDFF then .echoForbidden
  else if a ≤ 0xFE9F then .oam
  else if a ≤ 0xFEFF then .forbidden
  else if a ≤ 0xFF7F then .ioRegisters
  else if a ≤ 0xFFFE then .highRam
  else .interruptEnable

end Sys2Proof.Machine
end

