-- ==== Sys2Proof/Tests/Slice0.lean ====
section
/-! SUPPORT. Tests of the model: ill-formed terms, the opcode map, the vectors of the spec, and for every statement with
hypotheses a state and operands that meet them. -/

namespace Sys2Proof.Tests

open Sys2Proof Sys2Proof.Machine

/-! ### Helpers -/

/-- The start state of 95_test_vectors.md: registers 0 but SP and PC, memory 0 (so the LCD is off). -/
def zero : State :=
  { State.reset with a := 0, f := 0, b := 0, c := 0, d := 0, e := 0, h := 0, l := 0, mem := ioDefaults.map fun p => (p.1, 0) }

/-- Cells put into memory. -/
def poke (s : State) (cells : List (Word × Byte)) : State := cells.foldl (fun s p => s.writeByte p.1 p.2) s

/-- Everything but memory is the same, and the listed cells hold their bytes. -/
def agrees (t want : State) (cells : List (Word × Byte)) : Bool :=
  decide ({ t with mem := [] } = { want with mem := [] }) && cells.all fun p => t.readByte p.1 == p.2

/-- One tick with `code` at PC and `cells` in memory ends in `want`. -/
def ends (code : List Byte) (s : State) (cells : List (Word × Byte)) (want : State) (after : List (Word × Byte)) : Bool :=
  match step ((poke s cells).storeBytes s.pc code) with
  | .next t => agrees t want after
  | .fault _ => false
  | .refused _ => false

/-- One tick stops with `f`. -/
def stops (code : List Byte) (s : State) (cells : List (Word × Byte)) (f : Fault) : Bool :=
  match step ((poke s cells).storeBytes s.pc code) with
  | .next _ => false
  | .fault g => decide (g = f)
  | .refused _ => false

/-- One DTU tick ends in `want`. -/
def tickEnds (cost : Nat) (s : State) (cells : List (Word × Byte)) (want : State) (after : List (Word × Byte)) : Bool :=
  agrees (dtuTick cost (poke s cells)) want after

/-- Every listed byte string decodes to its instruction and leaves the byte after it. -/
def rowsDecode (rows : List (List (List Byte × Instr))) : Bool :=
  rows.all fun four => four.all fun p =>
    match decode (p.1 ++ [0xA5]) with
    | .ok (i, rest) => decide (i = p.2) && decide (rest = [0xA5])
    | .error _ => false

/-- The answer is a next state. -/
def isNext : Result → Bool
  | .next _ => true
  | .fault _ => false
  | .refused _ => false

theorem exists_next {r : Result} (h : isNext r = true) : ∃ t, r = .next t := by
  cases r with
  | next t => exact ⟨t, rfl⟩
  | fault f => cases h
  | refused f => cases h

/-! ### Well-formedness and length -/

theorem test_wellFormed_refuses_prefix : (Instr.prefixCb 0x37).wellFormed = false := by decide
theorem test_wellFormed_accepts_swap : Instr.swapA.wellFormed = true := by decide
theorem test_decode_refuses_nothing : decode [] = .error .noOpcode := rfl
theorem test_decode_refuses_short : decode [0xC3, 0x00] = .error (.missingOperand 0xC3) := rfl
theorem test_table_word_ld_a_5 : decodeTableWord 16 0x053E = some (.ldAD8 0x05) := by decide
theorem test_table_word_cut : decodeTableWord 8 0x053E = some (.ldAD8 0x00) := by decide
theorem test_table_word_prefixed : decodeTableWord 16 0x37CB = some .swapA := by decide

/-! ### The opcode map

The words are the encodings of opcode_table.json, written out in bits (30_encoding.md R91, R96, R100, R101). -/

theorem test_decode_0x :
    rowsDecode [[([0b00000000], .nop), ([0b00000001, 0x34, 0x12], .ldBcD16 0x1234), ([0b00000010], .ldIndBcA), ([0b00000011], .incBc)],
      [([0b00000100], .incB), ([0b00000101], .decB), ([0b00000110, 0x9C], .ldBD8 0x9C), ([0b00000111], .rlca)],
      [([0b00001000, 0x34, 0x12], .ldIndA16Sp 0x1234), ([0b00001001], .addHlBc), ([0b00001010], .ldAIndBc), ([0b00001011], .decBc)],
      [([0b00001100], .incC), ([0b00001101], .decC), ([0b00001110, 0x9C], .ldCD8 0x9C), ([0b00001111], .rrca)]] = true := by decide
theorem test_decode_1x :
    rowsDecode [[([0b00010000], .stop), ([0b00010001, 0x34, 0x12], .ldDeD16 0x1234), ([0b00010010], .ldIndDeA), ([0b00010011], .incDe)],
      [([0b00010100], .incD), ([0b00010101], .decD), ([0b00010110, 0x9C], .ldDD8 0x9C), ([0b00010111], .rla)],
      [([0b00011000, 0x9C], .jrE8 0x9C), ([0b00011001], .addHlDe), ([0b00011010], .ldAIndDe), ([0b00011011], .decDe)],
      [([0b00011100], .incE), ([0b00011101], .decE), ([0b00011110, 0x9C], .ldED8 0x9C), ([0b00011111], .rra)]] = true := by decide
theorem test_decode_2x :
    rowsDecode [[([0b00100000, 0x9C], .jrNzE8 0x9C), ([0b00100001, 0x34, 0x12], .ldHlD16 0x1234), ([0b00100010], .ldIndHlIncA), ([0b00100011], .incHl)],
      [([0b00100100], .incH), ([0b00100101], .decH), ([0b00100110, 0x9C], .ldHD8 0x9C), ([0b00100111], .daa)],
      [([0b00101000, 0x9C], .jrZE8 0x9C), ([0b00101001], .addHlHl), ([0b00101010], .ldAIndHlInc), ([0b00101011], .decHl)],
      [([0b00101100], .incL), ([0b00101101], .decL), ([0b00101110, 0x9C], .ldLD8 0x9C), ([0b00101111], .cpl)]] = true := by decide
theorem test_decode_3x :
    rowsDecode [[([0b00110000, 0x9C], .jrNcE8 0x9C), ([0b00110001, 0x34, 0x12], .ldSpD16 0x1234), ([0b00110010], .ldIndHlDecA), ([0b00110011], .incSp)],
      [([0b00110100], .incIndHl), ([0b00110101], .decIndHl), ([0b00110110, 0x9C], .ldIndHlD8 0x9C), ([0b00110111], .scf)],
      [([0b00111000, 0x9C], .jrCE8 0x9C), ([0b00111001], .addHlSp), ([0b00111010], .ldAIndHlDec), ([0b00111011], .decSp)],
      [([0b00111100], .incA), ([0b00111101], .decA), ([0b00111110, 0x9C], .ldAD8 0x9C), ([0b00111111], .ccf)]] = true := by decide
theorem test_decode_4x :
    rowsDecode [[([0b01000000], .ldBB), ([0b01000001], .ldBC), ([0b01000010], .ldBD), ([0b01000011], .ldBE)],
      [([0b01000100], .ldBH), ([0b01000101], .ldBL), ([0b01000110], .ldBIndHl), ([0b01000111], .ldBA)],
      [([0b01001000], .ldCB), ([0b01001001], .ldCC), ([0b01001010], .ldCD), ([0b01001011], .ldCE)],
      [([0b01001100], .ldCH), ([0b01001101], .ldCL), ([0b01001110], .ldCIndHl), ([0b01001111], .ldCA)]] = true := by decide
theorem test_decode_5x :
    rowsDecode [[([0b01010000], .ldDB), ([0b01010001], .ldDC), ([0b01010010], .ldDD), ([0b01010011], .ldDE)],
      [([0b01010100], .ldDH), ([0b01010101], .ldDL), ([0b01010110], .ldDIndHl), ([0b01010111], .ldDA)],
      [([0b01011000], .ldEB), ([0b01011001], .ldEC), ([0b01011010], .ldED), ([0b01011011], .ldEE)],
      [([0b01011100], .ldEH), ([0b01011101], .ldEL), ([0b01011110], .ldEIndHl), ([0b01011111], .ldEA)]] = true := by decide
theorem test_decode_6x :
    rowsDecode [[([0b01100000], .ldHB), ([0b01100001], .ldHC), ([0b01100010], .ldHD), ([0b01100011], .ldHE)],
      [([0b01100100], .ldHH), ([0b01100101], .ldHL), ([0b01100110], .ldHIndHl), ([0b01100111], .ldHA)],
      [([0b01101000], .ldLB), ([0b01101001], .ldLC), ([0b01101010], .ldLD), ([0b01101011], .ldLE)],
      [([0b01101100], .ldLH), ([0b01101101], .ldLL), ([0b01101110], .ldLIndHl), ([0b01101111], .ldLA)]] = true := by decide
theorem test_decode_7x :
    rowsDecode [[([0b01110000], .ldIndHlB), ([0b01110001], .ldIndHlC), ([0b01110010], .ldIndHlD), ([0b01110011], .ldIndHlE)],
      [([0b01110100], .ldIndHlH), ([0b01110101], .ldIndHlL), ([0b01110110], .halt), ([0b01110111], .ldIndHlA)],
      [([0b01111000], .ldAB), ([0b01111001], .ldAC), ([0b01111010], .ldAD), ([0b01111011], .ldAE)],
      [([0b01111100], .ldAH), ([0b01111101], .ldAL), ([0b01111110], .ldAIndHl), ([0b01111111], .ldAA)]] = true := by decide
theorem test_decode_8x :
    rowsDecode [[([0b10000000], .addB), ([0b10000001], .addC), ([0b10000010], .addD), ([0b10000011], .addE)],
      [([0b10000100], .addH), ([0b10000101], .addL), ([0b10000110], .addIndHl), ([0b10000111], .addA)],
      [([0b10001000], .adcB), ([0b10001001], .adcC), ([0b10001010], .adcD), ([0b10001011], .adcE)],
      [([0b10001100], .adcH), ([0b10001101], .adcL), ([0b10001110], .adcIndHl), ([0b10001111], .adcA)]] = true := by decide
theorem test_decode_9x :
    rowsDecode [[([0b10010000], .subB), ([0b10010001], .subC), ([0b10010010], .subD), ([0b10010011], .subE)],
      [([0b10010100], .subH), ([0b10010101], .subL), ([0b10010110], .subIndHl), ([0b10010111], .subA)],
      [([0b10011000], .sbcB), ([0b10011001], .sbcC), ([0b10011010], .sbcD), ([0b10011011], .sbcE)],
      [([0b10011100], .sbcH), ([0b10011101], .sbcL), ([0b10011110], .sbcIndHl), ([0b10011111], .sbcA)]] = true := by decide
theorem test_decode_Ax :
    rowsDecode [[([0b10100000], .andB), ([0b10100001], .andC), ([0b10100010], .andD), ([0b10100011], .andE)],
      [([0b10100100], .andH), ([0b10100101], .andL), ([0b10100110], .andIndHl), ([0b10100111], .andA)],
      [([0b10101000], .xorB), ([0b10101001], .xorC), ([0b10101010], .xorD), ([0b10101011], .xorE)],
      [([0b10101100], .xorH), ([0b10101101], .xorL), ([0b10101110], .xorIndHl), ([0b10101111], .xorA)]] = true := by decide
theorem test_decode_Bx :
    rowsDecode [[([0b10110000], .orB), ([0b10110001], .orC), ([0b10110010], .orD), ([0b10110011], .orE)],
      [([0b10110100], .orH), ([0b10110101], .orL), ([0b10110110], .orIndHl), ([0b10110111], .orA)],
      [([0b10111000], .cpB), ([0b10111001], .cpC), ([0b10111010], .cpD), ([0b10111011], .cpE)],
      [([0b10111100], .cpH), ([0b10111101], .cpL), ([0b10111110], .cpIndHl), ([0b10111111], .cpA)]] = true := by decide
theorem test_decode_Cx :
    rowsDecode [[([0b11000000], .retNz), ([0b11000001], .popBc), ([0b11000010, 0x34, 0x12], .jpNzA16 0x1234), ([0b11000011, 0x34, 0x12], .jpA16 0x1234)],
      [([0b11000100, 0x34, 0x12], .callNzA16 0x1234), ([0b11000101], .pushBc), ([0b11000110, 0x9C], .addD8 0x9C), ([0b11000111], .rst00)],
      [([0b11001000], .retZ), ([0b11001001], .ret), ([0b11001010, 0x34, 0x12], .jpZA16 0x1234), ([0b11001100, 0x34, 0x12], .callZA16 0x1234)],
      [([0b11001101, 0x34, 0x12], .callA16 0x1234), ([0b11001110, 0x9C], .adcD8 0x9C), ([0b11001111], .rst08)]] = true := by decide
theorem test_decode_Dx :
    rowsDecode [[([0b11010000], .retNc), ([0b11010001], .popDe), ([0b11010010, 0x34, 0x12], .jpNcA16 0x1234), ([0b11010011], .unassignedD3)],
      [([0b11010100, 0x34, 0x12], .callNcA16 0x1234), ([0b11010101], .pushDe), ([0b11010110, 0x9C], .subD8 0x9C), ([0b11010111], .rst10)],
      [([0b11011000], .retC), ([0b11011001], .reti), ([0b11011010, 0x34, 0x12], .jpCA16 0x1234), ([0b11011011], .unassignedDB)],
      [([0b11011100, 0x34, 0x12], .callCA16 0x1234), ([0b11011101], .unassignedDD), ([0b11011110, 0x9C], .sbcD8 0x9C), ([0b11011111], .rst18)]] = true := by decide
theorem test_decode_Ex :
    rowsDecode [[([0b11100000, 0x9C], .ldhA8A 0x9C), ([0b11100001], .popHl), ([0b11100010], .ldIndCA), ([0b11100011], .unassignedE3)],
      [([0b11100100], .unassignedE4), ([0b11100101], .pushHl), ([0b11100110, 0x9C], .andD8 0x9C), ([0b11100111], .rst20)],
      [([0b11101000, 0x9C], .addSpE8 0x9C), ([0b11101001], .jpHl), ([0b11101010, 0x34, 0x12], .ldIndA16A 0x1234), ([0b11101011], .unassignedEB)],
      [([0b11101100], .unassignedEC), ([0b11101101], .unassignedED), ([0b11101110, 0x9C], .xorD8 0x9C), ([0b11101111], .rst28)]] = true := by decide
theorem test_decode_Fx :
    rowsDecode [[([0b11110000, 0x9C], .ldhAA8 0x9C), ([0b11110001], .popAf), ([0b11110010], .ldAIndC), ([0b11110011], .di)],
      [([0b11110100], .unassignedF4), ([0b11110101], .pushAf), ([0b11110110, 0x9C], .orD8 0x9C), ([0b11110111], .rst30)],
      [([0b11111000, 0x9C], .ldHlSpE8 0x9C), ([0b11111001], .ldSpHl), ([0b11111010, 0x34, 0x12], .ldAIndA16 0x1234), ([0b11111011], .ei)],
      [([0b11111100], .unassignedFC), ([0b11111101], .unassignedFD), ([0b11111110, 0x9C], .cpD8 0x9C), ([0b11111111], .rst38)]] = true := by decide
theorem test_decode_cb_0x :
    rowsDecode [[([0b11001011, 0b00000000], .rlcB), ([0b11001011, 0b00000001], .rlcC), ([0b11001011, 0b00000010], .rlcD), ([0b11001011, 0b00000011], .rlcE)],
      [([0b11001011, 0b00000100], .rlcH), ([0b11001011, 0b00000101], .rlcL), ([0b11001011, 0b00000110], .rlcIndHl), ([0b11001011, 0b00000111], .rlcA)],
      [([0b11001011, 0b00001000], .rrcB), ([0b11001011, 0b00001001], .rrcC), ([0b11001011, 0b00001010], .rrcD), ([0b11001011, 0b00001011], .rrcE)],
      [([0b11001011, 0b00001100], .rrcH), ([0b11001011, 0b00001101], .rrcL), ([0b11001011, 0b00001110], .rrcIndHl), ([0b11001011, 0b00001111], .rrcA)]] = true := by decide
theorem test_decode_cb_1x :
    rowsDecode [[([0b11001011, 0b00010000], .rlB), ([0b11001011, 0b00010001], .rlC), ([0b11001011, 0b00010010], .rlD), ([0b11001011, 0b00010011], .rlE)],
      [([0b11001011, 0b00010100], .rlH), ([0b11001011, 0b00010101], .rlL), ([0b11001011, 0b00010110], .rlIndHl), ([0b11001011, 0b00010111], .rlA)],
      [([0b11001011, 0b00011000], .rrB), ([0b11001011, 0b00011001], .rrC), ([0b11001011, 0b00011010], .rrD), ([0b11001011, 0b00011011], .rrE)],
      [([0b11001011, 0b00011100], .rrH), ([0b11001011, 0b00011101], .rrL), ([0b11001011, 0b00011110], .rrIndHl), ([0b11001011, 0b00011111], .rrA)]] = true := by decide
theorem test_decode_cb_2x :
    rowsDecode [[([0b11001011, 0b00100000], .slaB), ([0b11001011, 0b00100001], .slaC), ([0b11001011, 0b00100010], .slaD), ([0b11001011, 0b00100011], .slaE)],
      [([0b11001011, 0b00100100], .slaH), ([0b11001011, 0b00100101], .slaL), ([0b11001011, 0b00100110], .slaIndHl), ([0b11001011, 0b00100111], .slaA)],
      [([0b11001011, 0b00101000], .sraB), ([0b11001011, 0b00101001], .sraC), ([0b11001011, 0b00101010], .sraD), ([0b11001011, 0b00101011], .sraE)],
      [([0b11001011, 0b00101100], .sraH), ([0b11001011, 0b00101101], .sraL), ([0b11001011, 0b00101110], .sraIndHl), ([0b11001011, 0b00101111], .sraA)]] = true := by decide
theorem test_decode_cb_3x :
    rowsDecode [[([0b11001011, 0b00110000], .swapB), ([0b11001011, 0b00110001], .swapC), ([0b11001011, 0b00110010], .swapD), ([0b11001011, 0b00110011], .swapE)],
      [([0b11001011, 0b00110100], .swapH), ([0b11001011, 0b00110101], .swapL), ([0b11001011, 0b00110110], .swapIndHl), ([0b11001011, 0b00110111], .swapA)],
      [([0b11001011, 0b00111000], .srlB), ([0b11001011, 0b00111001], .srlC), ([0b11001011, 0b00111010], .srlD), ([0b11001011, 0b00111011], .srlE)],
      [([0b11001011, 0b00111100], .srlH), ([0b11001011, 0b00111101], .srlL), ([0b11001011, 0b00111110], .srlIndHl), ([0b11001011, 0b00111111], .srlA)]] = true := by decide
theorem test_decode_cb_4x :
    rowsDecode [[([0b11001011, 0b01000000], .bit0B), ([0b11001011, 0b01000001], .bit0C), ([0b11001011, 0b01000010], .bit0D), ([0b11001011, 0b01000011], .bit0E)],
      [([0b11001011, 0b01000100], .bit0H), ([0b11001011, 0b01000101], .bit0L), ([0b11001011, 0b01000110], .bit0IndHl), ([0b11001011, 0b01000111], .bit0A)],
      [([0b11001011, 0b01001000], .bit1B), ([0b11001011, 0b01001001], .bit1C), ([0b11001011, 0b01001010], .bit1D), ([0b11001011, 0b01001011], .bit1E)],
      [([0b11001011, 0b01001100], .bit1H), ([0b11001011, 0b01001101], .bit1L), ([0b11001011, 0b01001110], .bit1IndHl), ([0b11001011, 0b01001111], .bit1A)]] = true := by decide
theorem test_decode_cb_5x :
    rowsDecode [[([0b11001011, 0b01010000], .bit2B), ([0b11001011, 0b01010001], .bit2C), ([0b11001011, 0b01010010], .bit2D), ([0b11001011, 0b01010011], .bit2E)],
      [([0b11001011, 0b01010100], .bit2H), ([0b11001011, 0b01010101], .bit2L), ([0b11001011, 0b01010110], .bit2IndHl), ([0b11001011, 0b01010111], .bit2A)],
      [([0b11001011, 0b01011000], .bit3B), ([0b11001011, 0b01011001], .bit3C), ([0b11001011, 0b01011010], .bit3D), ([0b11001011, 0b01011011], .bit3E)],
      [([0b11001011, 0b01011100], .bit3H), ([0b11001011, 0b01011101], .bit3L), ([0b11001011, 0b01011110], .bit3IndHl), ([0b11001011, 0b01011111], .bit3A)]] = true := by decide
theorem test_decode_cb_6x :
    rowsDecode [[([0b11001011, 0b01100000], .bit4B), ([0b11001011, 0b01100001], .bit4C), ([0b11001011, 0b01100010], .bit4D), ([0b11001011, 0b01100011], .bit4E)],
      [([0b11001011, 0b01100100], .bit4H), ([0b11001011, 0b01100101], .bit4L), ([0b11001011, 0b01100110], .bit4IndHl), ([0b11001011, 0b01100111], .bit4A)],
      [([0b11001011, 0b01101000], .bit5B), ([0b11001011, 0b01101001], .bit5C), ([0b11001011, 0b01101010], .bit5D), ([0b11001011, 0b01101011], .bit5E)],
      [([0b11001011, 0b01101100], .bit5H), ([0b11001011, 0b01101101], .bit5L), ([0b11001011, 0b01101110], .bit5IndHl), ([0b11001011, 0b01101111], .bit5A)]] = true := by decide
theorem test_decode_cb_7x :
    rowsDecode [[([0b11001011, 0b01110000], .bit6B), ([0b11001011, 0b01110001], .bit6C), ([0b11001011, 0b01110010], .bit6D), ([0b11001011, 0b01110011], .bit6E)],
      [([0b11001011, 0b01110100], .bit6H), ([0b11001011, 0b01110101], .bit6L), ([0b11001011, 0b01110110], .bit6IndHl), ([0b11001011, 0b01110111], .bit6A)],
      [([0b11001011, 0b01111000], .bit7B), ([0b11001011, 0b01111001], .bit7C), ([0b11001011, 0b01111010], .bit7D), ([0b11001011, 0b01111011], .bit7E)],
      [([0b11001011, 0b01111100], .bit7H), ([0b11001011, 0b01111101], .bit7L), ([0b11001011, 0b01111110], .bit7IndHl), ([0b11001011, 0b01111111], .bit7A)]] = true := by decide
theorem test_decode_cb_8x :
    rowsDecode [[([0b11001011, 0b10000000], .res0B), ([0b11001011, 0b10000001], .res0C), ([0b11001011, 0b10000010], .res0D), ([0b11001011, 0b10000011], .res0E)],
      [([0b11001011, 0b10000100], .res0H), ([0b11001011, 0b10000101], .res0L), ([0b11001011, 0b10000110], .res0IndHl), ([0b11001011, 0b10000111], .res0A)],
      [([0b11001011, 0b10001000], .res1B), ([0b11001011, 0b10001001], .res1C), ([0b11001011, 0b10001010], .res1D), ([0b11001011, 0b10001011], .res1E)],
      [([0b11001011, 0b10001100], .res1H), ([0b11001011, 0b10001101], .res1L), ([0b11001011, 0b10001110], .res1IndHl), ([0b11001011, 0b10001111], .res1A)]] = true := by decide
theorem test_decode_cb_9x :
    rowsDecode [[([0b11001011, 0b10010000], .res2B), ([0b11001011, 0b10010001], .res2C), ([0b11001011, 0b10010010], .res2D), ([0b11001011, 0b10010011], .res2E)],
      [([0b11001011, 0b10010100], .res2H), ([0b11001011, 0b10010101], .res2L), ([0b11001011, 0b10010110], .res2IndHl), ([0b11001011, 0b10010111], .res2A)],
      [([0b11001011, 0b10011000], .res3B), ([0b11001011, 0b10011001], .res3C), ([0b11001011, 0b10011010], .res3D), ([0b11001011, 0b10011011], .res3E)],
      [([0b11001011, 0b10011100], .res3H), ([0b11001011, 0b10011101], .res3L), ([0b11001011, 0b10011110], .res3IndHl), ([0b11001011, 0b10011111], .res3A)]] = true := by decide
theorem test_decode_cb_Ax :
    rowsDecode [[([0b11001011, 0b10100000], .res4B), ([0b11001011, 0b10100001], .res4C), ([0b11001011, 0b10100010], .res4D), ([0b11001011, 0b10100011], .res4E)],
      [([0b11001011, 0b10100100], .res4H), ([0b11001011, 0b10100101], .res4L), ([0b11001011, 0b10100110], .res4IndHl), ([0b11001011, 0b10100111], .res4A)],
      [([0b11001011, 0b10101000], .res5B), ([0b11001011, 0b10101001], .res5C), ([0b11001011, 0b10101010], .res5D), ([0b11001011, 0b10101011], .res5E)],
      [([0b11001011, 0b10101100], .res5H), ([0b11001011, 0b10101101], .res5L), ([0b11001011, 0b10101110], .res5IndHl), ([0b11001011, 0b10101111], .res5A)]] = true := by decide
theorem test_decode_cb_Bx :
    rowsDecode [[([0b11001011, 0b10110000], .res6B), ([0b11001011, 0b10110001], .res6C), ([0b11001011, 0b10110010], .res6D), ([0b11001011, 0b10110011], .res6E)],
      [([0b11001011, 0b10110100], .res6H), ([0b11001011, 0b10110101], .res6L), ([0b11001011, 0b10110110], .res6IndHl), ([0b11001011, 0b10110111], .res6A)],
      [([0b11001011, 0b10111000], .res7B), ([0b11001011, 0b10111001], .res7C), ([0b11001011, 0b10111010], .res7D), ([0b11001011, 0b10111011], .res7E)],
      [([0b11001011, 0b10111100], .res7H), ([0b11001011, 0b10111101], .res7L), ([0b11001011, 0b10111110], .res7IndHl), ([0b11001011, 0b10111111], .res7A)]] = true := by decide
theorem test_decode_cb_Cx :
    rowsDecode [[([0b11001011, 0b11000000], .set0B), ([0b11001011, 0b11000001], .set0C), ([0b11001011, 0b11000010], .set0D), ([0b11001011, 0b11000011], .set0E)],
      [([0b11001011, 0b11000100], .set0H), ([0b11001011, 0b11000101], .set0L), ([0b11001011, 0b11000110], .set0IndHl), ([0b11001011, 0b11000111], .set0A)],
      [([0b11001011, 0b11001000], .set1B), ([0b11001011, 0b11001001], .set1C), ([0b11001011, 0b11001010], .set1D), ([0b11001011, 0b11001011], .set1E)],
      [([0b11001011, 0b11001100], .set1H), ([0b11001011, 0b11001101], .set1L), ([0b11001011, 0b11001110], .set1IndHl), ([0b11001011, 0b11001111], .set1A)]] = true := by decide
theorem test_decode_cb_Dx :
    rowsDecode [[([0b11001011, 0b11010000], .set2B), ([0b11001011, 0b11010001], .set2C), ([0b11001011, 0b11010010], .set2D), ([0b11001011, 0b11010011], .set2E)],
      [([0b11001011, 0b11010100], .set2H), ([0b11001011, 0b11010101], .set2L), ([0b11001011, 0b11010110], .set2IndHl), ([0b11001011, 0b11010111], .set2A)],
      [([0b11001011, 0b11011000], .set3B), ([0b11001011, 0b11011001], .set3C), ([0b11001011, 0b11011010], .set3D), ([0b11001011, 0b11011011], .set3E)],
      [([0b11001011, 0b11011100], .set3H), ([0b11001011, 0b11011101], .set3L), ([0b11001011, 0b11011110], .set3IndHl), ([0b11001011, 0b11011111], .set3A)]] = true := by decide
theorem test_decode_cb_Ex :
    rowsDecode [[([0b11001011, 0b11100000], .set4B), ([0b11001011, 0b11100001], .set4C), ([0b11001011, 0b11100010], .set4D), ([0b11001011, 0b11100011], .set4E)],
      [([0b11001011, 0b11100100], .set4H), ([0b11001011, 0b11100101], .set4L), ([0b11001011, 0b11100110], .set4IndHl), ([0b11001011, 0b11100111], .set4A)],
      [([0b11001011, 0b11101000], .set5B), ([0b11001011, 0b11101001], .set5C), ([0b11001011, 0b11101010], .set5D), ([0b11001011, 0b11101011], .set5E)],
      [([0b11001011, 0b11101100], .set5H), ([0b11001011, 0b11101101], .set5L), ([0b11001011, 0b11101110], .set5IndHl), ([0b11001011, 0b11101111], .set5A)]] = true := by decide
theorem test_decode_cb_Fx :
    rowsDecode [[([0b11001011, 0b11110000], .set6B), ([0b11001011, 0b11110001], .set6C), ([0b11001011, 0b11110010], .set6D), ([0b11001011, 0b11110011], .set6E)],
      [([0b11001011, 0b11110100], .set6H), ([0b11001011, 0b11110101], .set6L), ([0b11001011, 0b11110110], .set6IndHl), ([0b11001011, 0b11110111], .set6A)],
      [([0b11001011, 0b11111000], .set7B), ([0b11001011, 0b11111001], .set7C), ([0b11001011, 0b11111010], .set7D), ([0b11001011, 0b11111011], .set7E)],
      [([0b11001011, 0b11111100], .set7H), ([0b11001011, 0b11111101], .set7L), ([0b11001011, 0b11111110], .set7IndHl), ([0b11001011, 0b11111111], .set7A)]] = true := by decide

/-! ### Vectors

The vectors of 95_test_vectors.md, by their numbers. -/

theorem test_v1_ld_b_c :
    ends [0x41] { zero with b := 0x12, c := 0x34 } []
      { zero with b := 0x34, c := 0x34, f := 0x00, pc := 0x0101, cost := 1 } [] = true := by decide
theorem test_v3_ld_h_l :
    ends [0x65] { zero with h := 0x12, l := 0xAB } []
      { zero with h := 0xAB, l := 0xAB, f := 0x00, pc := 0x0101, cost := 1 } [] = true := by decide
theorem test_v4_ld_e_0xff :
    ends [0x1E, 0xFF] zero []
      { zero with e := 0xFF, f := 0x00, pc := 0x0102, cost := 2 } [] = true := by decide
theorem test_v6_ld_a_hl :
    ends [0x7E] { zero with h := 0xC0, l := 0x00 } [(0xC000, 0x5C)]
      { zero with h := 0xC0, l := 0x00, a := 0x5C, f := 0x00, pc := 0x0101, cost := 2 } [] = true := by decide
theorem test_v7_ld_h_hl :
    ends [0x66] { zero with h := 0xC0, l := 0x00 } [(0xC000, 0x12)]
      { zero with h := 0x12, l := 0x00, f := 0x00, pc := 0x0101, cost := 2 } [] = true := by decide
theorem test_v8_ld_hl_a :
    ends [0x77] { zero with h := 0xC1, l := 0x00, a := 0x3C } []
      { zero with h := 0xC1, l := 0x00, a := 0x3C, f := 0x00, pc := 0x0101, cost := 2 } [(0xC100, 0x3C)] = true := by decide
theorem test_v9_ld_hl_h :
    ends [0x74] { zero with h := 0xC1, l := 0x00 } []
      { zero with h := 0xC1, l := 0x00, f := 0x00, pc := 0x0101, cost := 2 } [(0xC100, 0xC1)] = true := by decide
theorem test_v10_ld_hl_0x3c :
    ends [0x36, 0x3C] { zero with h := 0x8A, l := 0x5C } []
      { zero with h := 0x8A, l := 0x5C, f := 0x00, pc := 0x0102, cost := 3 } [(0x8A5C, 0x3C)] = true := by decide
theorem test_v11_ld_a_bc :
    ends [0x0A] { zero with b := 0xC0, c := 0x02 } [(0xC002, 0x2F)]
      { zero with b := 0xC0, c := 0x02, a := 0x2F, f := 0x00, pc := 0x0101, cost := 2 } [] = true := by decide
theorem test_v12_ld_a_de :
    ends [0x1A] { zero with d := 0xC0, e := 0x03 } [(0xC003, 0x5F)]
      { zero with d := 0xC0, e := 0x03, a := 0x5F, f := 0x00, pc := 0x0101, cost := 2 } [] = true := by decide
theorem test_v13_ld_bc_a :
    ends [0x02] { zero with b := 0xC2, c := 0x05, a := 0x3F } []
      { zero with b := 0xC2, c := 0x05, a := 0x3F, f := 0x00, pc := 0x0101, cost := 2 } [(0xC205, 0x3F)] = true := by decide
theorem test_v14_ld_de_a :
    ends [0x12] { zero with d := 0xC2, e := 0x5C, a := 0x7E } []
      { zero with d := 0xC2, e := 0x5C, a := 0x7E, f := 0x00, pc := 0x0101, cost := 2 } [(0xC25C, 0x7E)] = true := by decide
theorem test_v15_ld_a_0xc123 :
    ends [0xFA, 0x23, 0xC1] zero [(0xC123, 0x90)]
      { zero with a := 0x90, f := 0x00, pc := 0x0103, cost := 4 } [] = true := by decide
theorem test_v16_ld_0xffff_a :
    ends [0xEA, 0xFF, 0xFF] { zero with a := 0x01 } []
      { zero with a := 0x01, f := 0x00, pc := 0x0103, cost := 4 } [(0xFFFF, 0x01)] = true := by decide
theorem test_v17_ldh_a_0x80 :
    ends [0xF0, 0x80] zero [(0xFF80, 0x91)]
      { zero with a := 0x91, f := 0x00, pc := 0x0102, cost := 3 } [] = true := by decide
theorem test_v18_ldh_0x80_a :
    ends [0xE0, 0x80] { zero with a := 0x77 } []
      { zero with a := 0x77, f := 0x00, pc := 0x0102, cost := 3 } [(0xFF80, 0x77)] = true := by decide
theorem test_v19_ld_a_c :
    ends [0xF2] { zero with c := 0x81 } [(0xFF81, 0x05)]
      { zero with c := 0x81, a := 0x05, f := 0x00, pc := 0x0101, cost := 2 } [] = true := by decide
theorem test_v20_ld_c_a :
    ends [0xE2] { zero with c := 0x0F, a := 0x01 } []
      { zero with c := 0x0F, a := 0x01, f := 0x00, pc := 0x0101, cost := 2 } [(0xFF0F, 0x01)] = true := by decide
theorem test_v21_ld_hl_a :
    ends [0x22] { zero with h := 0xC0, l := 0x00, a := 0x56 } []
      { zero with h := 0xC0, l := 0x01, a := 0x56, f := 0x00, pc := 0x0101, cost := 2 } [(0xC000, 0x56)] = true := by decide
theorem test_v22_ld_hl_a :
    ends [0x22] { zero with h := 0xFF, l := 0xFF, a := 0x01 } []
      { zero with h := 0x00, l := 0x00, a := 0x01, f := 0x00, pc := 0x0101, cost := 2 } [(0xFFFF, 0x01)] = true := by decide
theorem test_v23_ld_a_hl :
    ends [0x2A] { zero with h := 0x01, l := 0xFF } [(0x01FF, 0x56)]
      { zero with h := 0x02, l := 0x00, a := 0x56, f := 0x00, pc := 0x0101, cost := 2 } [] = true := by decide
theorem test_v25_ld_hlm_a :
    ends [0x32] { zero with h := 0x00, l := 0x00, a := 0x05 } []
      { zero with h := 0xFF, l := 0xFF, a := 0x05, f := 0x00, pc := 0x0101, cost := 2 } [(0x0000, 0x05)] = true := by decide
theorem test_v24_ld_hlm_a :
    ends [0x32] { zero with h := 0x40, l := 0x00, a := 0x05 } []
      { zero with h := 0x3F, l := 0xFF, a := 0x05, f := 0x00, pc := 0x0101, cost := 2 } [(0x4000, 0x05)] = true := by decide
theorem test_v26_ld_a_hlm :
    ends [0x3A] { zero with h := 0x8A, l := 0x5C } [(0x8A5C, 0x3C)]
      { zero with h := 0x8A, l := 0x5B, a := 0x3C, f := 0x00, pc := 0x0101, cost := 2 } [] = true := by decide
theorem test_v27_ld_bc_0x1234 :
    ends [0x01, 0x34, 0x12] zero []
      { zero with b := 0x12, c := 0x34, f := 0x00, pc := 0x0103, cost := 3 } [] = true := by decide
theorem test_v29_ld_sp_0xd000 :
    ends [0x31, 0x00, 0xD0] zero []
      { zero with f := 0x00, sp := 0xD000, pc := 0x0103, cost := 3 } [] = true := by decide
theorem test_v30_ld_0xc100_sp :
    ends [0x08, 0x00, 0xC1] { zero with sp := 0xFFF8 } []
      { zero with sp := 0xFFF8, f := 0x00, pc := 0x0103, cost := 5 } [(0xC100, 0xF8), (0xC101, 0xFF)] = true := by decide
theorem test_v31_ld_0xffff_sp :
    ends [0x08, 0xFF, 0xFF] { zero with pc := 0x0200, sp := 0x1234 } []
      { zero with pc := 0x0203, sp := 0x1234, f := 0x00, cost := 5 } [(0xFFFF, 0x34), (0x0000, 0x12)] = true := by decide
theorem test_v32_ld_sp_hl :
    ends [0xF9] { zero with h := 0xDF, l := 0xF0 } []
      { zero with h := 0xDF, l := 0xF0, f := 0x00, sp := 0xDFF0, pc := 0x0101, cost := 2 } [] = true := by decide
theorem test_v33_ld_hl_sp_2 :
    ends [0xF8, 0x02] { zero with sp := 0xFFF8 } []
      { zero with sp := 0xFFF8, h := 0xFF, l := 0xFA, f := 0x00, pc := 0x0102, cost := 3 } [] = true := by decide
theorem test_v34_ld_hl_spm1 :
    ends [0xF8, 0xFF] { zero with sp := 0x0001, f := 0x80, h := 0x12, l := 0x34 } []
      { zero with sp := 0x0001, f := 0x30, h := 0x00, l := 0x00, pc := 0x0102, cost := 3 } [] = true := by decide
theorem test_v36_push_bc :
    ends [0xC5] { zero with b := 0x12, c := 0x34 } []
      { zero with b := 0x12, c := 0x34, f := 0x00, sp := 0xFFFC, pc := 0x0101, cost := 4 } [(0xFFFC, 0x34), (0xFFFD, 0x12)] = true := by decide
theorem test_v37_push_hl :
    ends [0xE5] { zero with h := 0xBE, l := 0xEF, sp := 0x0001 } []
      { zero with h := 0xBE, l := 0xEF, sp := 0xFFFF, f := 0x00, pc := 0x0101, cost := 4 } [(0xFFFF, 0xEF), (0x0000, 0xBE)] = true := by decide
theorem test_v38_push_af :
    ends [0xF5] { zero with a := 0x12, f := 0xA0, sp := 0xD000 } []
      { zero with a := 0x12, f := 0xA0, sp := 0xCFFE, pc := 0x0101, cost := 4 } [(0xCFFE, 0xA0), (0xCFFF, 0x12)] = true := by decide
theorem test_v39_pop_bc :
    ends [0xC1] { zero with sp := 0xFFFC } [(0xFFFC, 0x5F), (0xFFFD, 0x3C)]
      { zero with sp := 0xFFFE, b := 0x3C, c := 0x5F, f := 0x00, pc := 0x0101, cost := 3 } [] = true := by decide
theorem test_v40_pop_af :
    ends [0xF1] { zero with sp := 0xCFFE } [(0xCFFE, 0x5F), (0xCFFF, 0x12)]
      { zero with sp := 0xD000, a := 0x12, f := 0x50, pc := 0x0101, cost := 3 } [] = true := by decide
theorem test_v41_pop_af :
    ends [0xF1] { zero with sp := 0xCFFE } [(0xCFFE, 0xFF), (0xCFFF, 0x00)]
      { zero with sp := 0xD000, a := 0x00, f := 0xF0, pc := 0x0101, cost := 3 } [] = true := by decide
theorem test_v43_add_a_b :
    ends [0x80] { zero with a := 0xFF, b := 0x01 } []
      { zero with a := 0x00, b := 0x01, f := 0xB0, pc := 0x0101, cost := 1 } [] = true := by decide
theorem test_v44_add_a_a :
    ends [0x87] { zero with a := 0x80 } []
      { zero with a := 0x00, f := 0x90, pc := 0x0101, cost := 1 } [] = true := by decide
theorem test_v45_add_a_hl :
    ends [0x86] { zero with a := 0x3C, h := 0xC0, l := 0x00 } [(0xC000, 0x12)]
      { zero with a := 0x4E, h := 0xC0, l := 0x00, f := 0x00, pc := 0x0101, cost := 2 } [] = true := by decide
theorem test_v46_add_a_0xff :
    ends [0xC6, 0xFF] { zero with a := 0x3C } []
      { zero with a := 0x3B, f := 0x30, pc := 0x0102, cost := 2 } [] = true := by decide
theorem test_v47_adc_a_e :
    ends [0x8B] { zero with a := 0xE1, e := 0x0F, f := 0x10 } []
      { zero with a := 0xF1, e := 0x0F, f := 0x20, pc := 0x0101, cost := 1 } [] = true := by decide
theorem test_v48_adc_a_hl :
    ends [0x8E] { zero with a := 0xE1, h := 0xC0, l := 0x00, f := 0x10 } [(0xC000, 0x1E)]
      { zero with a := 0x00, h := 0xC0, l := 0x00, f := 0xB0, pc := 0x0101, cost := 2 } [] = true := by decide
theorem test_v49_adc_a_0x00 :
    ends [0xCE, 0x00] { zero with a := 0xFF, f := 0x10 } []
      { zero with a := 0x00, f := 0xB0, pc := 0x0102, cost := 2 } [] = true := by decide
theorem test_v50_sub_e :
    ends [0x93] { zero with a := 0x3E, e := 0x3E } []
      { zero with a := 0x00, e := 0x3E, f := 0xC0, pc := 0x0101, cost := 1 } [] = true := by decide
theorem test_v51_sub_a :
    ends [0x97] { zero with a := 0x77, f := 0x10 } []
      { zero with a := 0x00, f := 0xC0, pc := 0x0101, cost := 1 } [] = true := by decide
theorem test_v52_sub_hl :
    ends [0x96] { zero with a := 0x3E, h := 0xC0, l := 0x00 } [(0xC000, 0x40)]
      { zero with a := 0xFE, h := 0xC0, l := 0x00, f := 0x50, pc := 0x0101, cost := 2 } [] = true := by decide
theorem test_v53_sub_0xff :
    ends [0xD6, 0xFF] { zero with a := 0x00 } []
      { zero with a := 0x01, f := 0x70, pc := 0x0102, cost := 2 } [] = true := by decide
theorem test_v54_sbc_a_h :
    ends [0x9C] { zero with a := 0x3B, h := 0x2A, f := 0x10 } []
      { zero with a := 0x10, h := 0x2A, f := 0x40, pc := 0x0101, cost := 1 } [] = true := by decide
theorem test_v55_sbc_a_hl :
    ends [0x9E] { zero with a := 0x3B, h := 0xC0, l := 0x00, f := 0x10 } [(0xC000, 0x4F)]
      { zero with a := 0xEB, h := 0xC0, l := 0x00, f := 0x70, pc := 0x0101, cost := 2 } [] = true := by decide
theorem test_v56_sbc_a_0xff :
    ends [0xDE, 0xFF] { zero with a := 0x00, f := 0x10 } []
      { zero with a := 0x00, f := 0xF0, pc := 0x0102, cost := 2 } [] = true := by decide
theorem test_v57_and_l :
    ends [0xA5] { zero with a := 0x5A, l := 0x3F, f := 0x50 } []
      { zero with a := 0x1A, l := 0x3F, f := 0x20, pc := 0x0101, cost := 1 } [] = true := by decide
theorem test_v58_and_hl :
    ends [0xA6] { zero with a := 0x5A, h := 0xC0, l := 0x00 } [(0xC000, 0x00)]
      { zero with a := 0x00, h := 0xC0, l := 0x00, f := 0xA0, pc := 0x0101, cost := 2 } [] = true := by decide
theorem test_v59_and_0x38 :
    ends [0xE6, 0x38] { zero with a := 0x5A } []
      { zero with a := 0x18, f := 0x20, pc := 0x0102, cost := 2 } [] = true := by decide
theorem test_v60_xor_a :
    ends [0xAF] { zero with a := 0xFF, f := 0xF0 } []
      { zero with a := 0x00, f := 0x80, pc := 0x0101, cost := 1 } [] = true := by decide
theorem test_v61_xor_hl :
    ends [0xAE] { zero with a := 0xFF, h := 0xC0, l := 0x00 } [(0xC000, 0x8A)]
      { zero with a := 0x75, h := 0xC0, l := 0x00, f := 0x00, pc := 0x0101, cost := 2 } [] = true := by decide
theorem test_v62_xor_0x0f :
    ends [0xEE, 0x0F] { zero with a := 0xFF } []
      { zero with a := 0xF0, f := 0x00, pc := 0x0102, cost := 2 } [] = true := by decide
theorem test_v63_or_a :
    ends [0xB7] { zero with a := 0x00, f := 0x70 } []
      { zero with a := 0x00, f := 0x80, pc := 0x0101, cost := 1 } [] = true := by decide
theorem test_v64_or_hl :
    ends [0xB6] { zero with a := 0x5A, h := 0xC0, l := 0x00 } [(0xC000, 0x0F)]
      { zero with a := 0x5F, h := 0xC0, l := 0x00, f := 0x00, pc := 0x0101, cost := 2 } [] = true := by decide
theorem test_v65_or_0x03 :
    ends [0xF6, 0x03] { zero with a := 0x5A } []
      { zero with a := 0x5B, f := 0x00, pc := 0x0102, cost := 2 } [] = true := by decide
theorem test_v66_cp_b :
    ends [0xB8] { zero with a := 0x3C, b := 0x2F } []
      { zero with a := 0x3C, b := 0x2F, f := 0x60, pc := 0x0101, cost := 1 } [] = true := by decide
theorem test_v67_cp_hl :
    ends [0xBE] { zero with a := 0x3C, h := 0xC0, l := 0x00 } [(0xC000, 0x40)]
      { zero with a := 0x3C, h := 0xC0, l := 0x00, f := 0x50, pc := 0x0101, cost := 2 } [] = true := by decide
theorem test_v68_cp_0x90 :
    ends [0xFE, 0x90] { zero with a := 0x90 } []
      { zero with a := 0x90, f := 0xC0, pc := 0x0102, cost := 2 } [] = true := by decide
theorem test_v69_inc_a :
    ends [0x3C] { zero with a := 0xFF, f := 0x10 } []
      { zero with a := 0x00, f := 0xB0, pc := 0x0101, cost := 1 } [] = true := by decide
theorem test_v71_inc_hl :
    ends [0x34] { zero with h := 0xC0, l := 0x00, f := 0x10 } [(0xC000, 0x50)]
      { zero with h := 0xC0, l := 0x00, f := 0x10, pc := 0x0101, cost := 3 } [(0xC000, 0x51)] = true := by decide
theorem test_v74_dec_b :
    ends [0x05] { zero with b := 0x00 } []
      { zero with b := 0xFF, f := 0x60, pc := 0x0101, cost := 1 } [] = true := by decide
theorem test_v76_dec_hl :
    ends [0x35] { zero with h := 0xC0, l := 0x00, f := 0x10 } [(0xC000, 0x10)]
      { zero with h := 0xC0, l := 0x00, f := 0x70, pc := 0x0101, cost := 3 } [(0xC000, 0x0F)] = true := by decide
theorem test_v77_cpl :
    ends [0x2F] { zero with a := 0x35, f := 0x90 } []
      { zero with a := 0xCA, f := 0xF0, pc := 0x0101, cost := 1 } [] = true := by decide
theorem test_v78_scf :
    ends [0x37] { zero with f := 0xE0 } []
      { zero with f := 0x90, pc := 0x0101, cost := 1 } [] = true := by decide
theorem test_v80_ccf :
    ends [0x3F] { zero with f := 0xE0 } []
      { zero with f := 0x90, pc := 0x0101, cost := 1 } [] = true := by decide
theorem test_v83_add_hl_hl :
    ends [0x29] { zero with h := 0x8A, l := 0x23 } []
      { zero with h := 0x14, l := 0x46, f := 0x30, pc := 0x0101, cost := 2 } [] = true := by decide
theorem test_v84_add_hl_de :
    ends [0x19] { zero with h := 0x08, l := 0x00, d := 0x08, e := 0x00 } []
      { zero with h := 0x10, l := 0x00, d := 0x08, e := 0x00, f := 0x20, pc := 0x0101, cost := 2 } [] = true := by decide
theorem test_v85_add_hl_de :
    ends [0x19] { zero with h := 0x07, l := 0xFF, d := 0x00, e := 0x01 } []
      { zero with h := 0x08, l := 0x00, d := 0x00, e := 0x01, f := 0x00, pc := 0x0101, cost := 2 } [] = true := by decide
theorem test_v86_add_hl_sp :
    ends [0x39] { zero with h := 0xFF, l := 0xFF, sp := 0x0001, f := 0x40 } []
      { zero with h := 0x00, l := 0x00, sp := 0x0001, f := 0x30, pc := 0x0101, cost := 2 } [] = true := by decide
theorem test_v88_inc_bc :
    ends [0x03] { zero with b := 0xFF, c := 0xFF, f := 0xF0 } []
      { zero with b := 0x00, c := 0x00, f := 0xF0, pc := 0x0101, cost := 2 } [] = true := by decide
theorem test_v89_inc_sp :
    ends [0x33] { zero with sp := 0xFFFF } []
      { zero with sp := 0x0000, f := 0x00, pc := 0x0101, cost := 2 } [] = true := by decide
theorem test_v91_dec_hl :
    ends [0x2B] { zero with h := 0x00, l := 0x00 } []
      { zero with h := 0xFF, l := 0xFF, f := 0x00, pc := 0x0101, cost := 2 } [] = true := by decide
theorem test_v94_add_sp_m1 :
    ends [0xE8, 0xFF] { zero with sp := 0x0001 } []
      { zero with sp := 0x0000, f := 0x30, pc := 0x0102, cost := 4 } [] = true := by decide
theorem test_v96_add_sp_m128 :
    ends [0xE8, 0x80] { zero with sp := 0x0000 } []
      { zero with sp := 0xFF80, f := 0x00, pc := 0x0102, cost := 4 } [] = true := by decide
theorem test_v98_rlca :
    ends [0x07] { zero with a := 0x00, f := 0x80 } []
      { zero with a := 0x00, f := 0x00, pc := 0x0101, cost := 1 } [] = true := by decide
theorem test_v99_rrca :
    ends [0x0F] { zero with a := 0x3B } []
      { zero with a := 0x9D, f := 0x10, pc := 0x0101, cost := 1 } [] = true := by decide
theorem test_v101_rla :
    ends [0x17] { zero with a := 0x95, f := 0x10 } []
      { zero with a := 0x2B, f := 0x10, pc := 0x0101, cost := 1 } [] = true := by decide
theorem test_v104_rra :
    ends [0x1F] { zero with a := 0x81, f := 0x10 } []
      { zero with a := 0xC0, f := 0x10, pc := 0x0101, cost := 1 } [] = true := by decide
theorem test_v107_jp_z_0x8000 :
    ends [0xCA, 0x00, 0x80] { zero with pc := 0x0200, f := 0x80 } []
      { zero with pc := 0x8000, f := 0x80, cost := 4 } [] = true := by decide
theorem test_v109_jp_nc_0x8000 :
    ends [0xD2, 0x00, 0x80] { zero with f := 0x10 } []
      { zero with f := 0x10, pc := 0x0103, cost := 3 } [] = true := by decide
theorem test_v110_jp_hl :
    ends [0xE9] { zero with h := 0x80, l := 0x00 } []
      { zero with h := 0x80, l := 0x00, pc := 0x8000, cost := 1 } [] = true := by decide
theorem test_v111_jr_5 :
    ends [0x18, 0x05] { zero with pc := 0x0150 } []
      { zero with pc := 0x0157, cost := 3 } [] = true := by decide
theorem test_v114_jr_2 :
    ends [0x18, 0x02] { zero with pc := 0xFFFE } []
      { zero with pc := 0x0002, cost := 3 } [] = true := by decide
theorem test_v116_jr_nz_m3 :
    ends [0x20, 0xFD] { zero with pc := 0x0105, f := 0x00 } []
      { zero with pc := 0x0104, f := 0x00, cost := 3 } [] = true := by decide
theorem test_v117_jr_nz_m3 :
    ends [0x20, 0xFD] { zero with pc := 0x0105, f := 0x80 } []
      { zero with pc := 0x0107, f := 0x80, cost := 2 } [] = true := by decide
theorem test_v119_call_0x1234 :
    ends [0xCD, 0x34, 0x12] { zero with pc := 0x8000 } []
      { zero with pc := 0x1234, sp := 0xFFFC, cost := 6 } [(0xFFFC, 0x03), (0xFFFD, 0x80)] = true := by decide
theorem test_v120_call_nz_0x1234 :
    ends [0xC4, 0x34, 0x12] { zero with pc := 0x7FFD, f := 0x00 } []
      { zero with pc := 0x1234, f := 0x00, sp := 0xFFFC, cost := 6 } [(0xFFFC, 0x00), (0xFFFD, 0x80)] = true := by decide
theorem test_v121_call_nz_0x1234 :
    ends [0xC4, 0x34, 0x12] { zero with pc := 0x7FFD, f := 0x80 } []
      { zero with pc := 0x8000, f := 0x80, cost := 3 } [] = true := by decide
theorem test_v122_ret :
    ends [0xC9] { zero with sp := 0xFFFC } [(0xFFFC, 0x03), (0xFFFD, 0x80)]
      { zero with sp := 0xFFFE, pc := 0x8003, cost := 4 } [] = true := by decide
theorem test_v123_ret_c :
    ends [0xD8] { zero with sp := 0xFFFC, f := 0x10 } [(0xFFFC, 0x03), (0xFFFD, 0x80)]
      { zero with sp := 0xFFFE, f := 0x10, pc := 0x8003, cost := 5 } [] = true := by decide
theorem test_v124_ret_nc :
    ends [0xD0] { zero with sp := 0xFFFC, f := 0x10 } [(0xFFFC, 0x03), (0xFFFD, 0x80)]
      { zero with sp := 0xFFFC, f := 0x10, pc := 0x0101, cost := 2 } [] = true := by decide
theorem test_v125_reti :
    ends [0xD9] { zero with sp := 0xFFFC } [(0xFFFC, 0x03), (0xFFFD, 0x80)]
      { zero with sp := 0xFFFE, pc := 0x8003, imep := .armed true .two, cost := 4 } [] = true := by decide
theorem test_v126_reti :
    ends [0xD9] { zero with sp := 0xFFFC, imep := .armed false .two } [(0xFFFC, 0x03), (0xFFFD, 0x80)]
      { zero with sp := 0xFFFE, imep := .armed true .two, pc := 0x8003, cost := 4 } [] = true := by decide
theorem test_v127_rst_08 :
    ends [0xCF] { zero with pc := 0x8000 } []
      { zero with pc := 0x0008, sp := 0xFFFC, cost := 4 } [(0xFFFC, 0x01), (0xFFFD, 0x80)] = true := by decide
theorem test_v128_rst_38 :
    ends [0xFF] { zero with pc := 0xFFFF, sp := 0x0000 } []
      { zero with pc := 0x0038, sp := 0xFFFE, cost := 4 } [(0xFFFE, 0x00), (0xFFFF, 0x00)] = true := by decide
theorem test_v129_nop :
    ends [0x00] zero []
      { zero with pc := 0x0101, cost := 1 } [] = true := by decide
theorem test_v131_di :
    ends [0xF3] { zero with ime := true, imep := .armed true .one } []
      { zero with ime := true, imep := .armed false .two, pc := 0x0101, cost := 1 } [] = true := by decide
theorem test_v133_ei :
    ends [0xFB] { zero with ime := true, imep := .armed false .one } []
      { zero with ime := false, imep := .armed true .two, pc := 0x0101, cost := 1 } [] = true := by decide
theorem test_v150_rlc_b :
    ends [0xCB, 0x00] { zero with b := 0x85 } []
      { zero with b := 0x0B, f := 0x10, pc := 0x0102, cost := 2 } [] = true := by decide
theorem test_v151_rlc_a :
    ends [0xCB, 0x07] { zero with a := 0x00, f := 0x10 } []
      { zero with a := 0x00, f := 0x80, pc := 0x0102, cost := 2 } [] = true := by decide
theorem test_v152_rlc_hl :
    ends [0xCB, 0x06] { zero with h := 0xC0, l := 0x00 } [(0xC000, 0x80)]
      { zero with h := 0xC0, l := 0x00, f := 0x10, pc := 0x0102, cost := 4 } [(0xC000, 0x01)] = true := by decide
theorem test_v153_rrc_c :
    ends [0xCB, 0x09] { zero with c := 0x01 } []
      { zero with c := 0x80, f := 0x10, pc := 0x0102, cost := 2 } [] = true := by decide
theorem test_v154_rrc_hl :
    ends [0xCB, 0x0E] { zero with h := 0xC0, l := 0x00, f := 0x10 } [(0xC000, 0x00)]
      { zero with h := 0xC0, l := 0x00, f := 0x80, pc := 0x0102, cost := 4 } [(0xC000, 0x00)] = true := by decide
theorem test_v155_rl_l :
    ends [0xCB, 0x15] { zero with l := 0x80 } []
      { zero with l := 0x00, f := 0x90, pc := 0x0102, cost := 2 } [] = true := by decide
theorem test_v156_rl_d :
    ends [0xCB, 0x12] { zero with d := 0x00, f := 0x10 } []
      { zero with d := 0x01, f := 0x00, pc := 0x0102, cost := 2 } [] = true := by decide
theorem test_v157_rl_hl :
    ends [0xCB, 0x16] { zero with h := 0xC0, l := 0x00 } [(0xC000, 0x11)]
      { zero with h := 0xC0, l := 0x00, f := 0x00, pc := 0x0102, cost := 4 } [(0xC000, 0x22)] = true := by decide
theorem test_v158_rr_a :
    ends [0xCB, 0x1F] { zero with a := 0x01 } []
      { zero with a := 0x00, f := 0x90, pc := 0x0102, cost := 2 } [] = true := by decide
theorem test_v160_rr_hl :
    ends [0xCB, 0x1E] { zero with h := 0xC0, l := 0x00 } [(0xC000, 0x8A)]
      { zero with h := 0xC0, l := 0x00, f := 0x00, pc := 0x0102, cost := 4 } [(0xC000, 0x45)] = true := by decide
theorem test_v162_sla_hl :
    ends [0xCB, 0x26] { zero with h := 0xC0, l := 0x00 } [(0xC000, 0xFF)]
      { zero with h := 0xC0, l := 0x00, f := 0x10, pc := 0x0102, cost := 4 } [(0xC000, 0xFE)] = true := by decide
theorem test_v164_sra_h :
    ends [0xCB, 0x2C] { zero with h := 0xFF } []
      { zero with h := 0xFF, f := 0x10, pc := 0x0102, cost := 2 } [] = true := by decide
theorem test_v165_sra_hl :
    ends [0xCB, 0x2E] { zero with h := 0xC0, l := 0x00 } [(0xC000, 0x01)]
      { zero with h := 0xC0, l := 0x00, f := 0x90, pc := 0x0102, cost := 4 } [(0xC000, 0x00)] = true := by decide
theorem test_v167_swap_hl :
    ends [0xCB, 0x36] { zero with h := 0xC0, l := 0x00 } [(0xC000, 0xF0)]
      { zero with h := 0xC0, l := 0x00, f := 0x00, pc := 0x0102, cost := 4 } [(0xC000, 0x0F)] = true := by decide
theorem test_v168_srl_a :
    ends [0xCB, 0x3F] { zero with a := 0x01 } []
      { zero with a := 0x00, f := 0x90, pc := 0x0102, cost := 2 } [] = true := by decide
theorem test_v169_srl_hl :
    ends [0xCB, 0x3E] { zero with h := 0xC0, l := 0x00 } [(0xC000, 0xFF)]
      { zero with h := 0xC0, l := 0x00, f := 0x10, pc := 0x0102, cost := 4 } [(0xC000, 0x7F)] = true := by decide
theorem test_v170_bit_7_a :
    ends [0xCB, 0x7F] { zero with a := 0x80, f := 0x50 } []
      { zero with a := 0x80, f := 0x30, pc := 0x0102, cost := 2 } [] = true := by decide
theorem test_v171_bit_4_l :
    ends [0xCB, 0x65] { zero with l := 0xEF } []
      { zero with l := 0xEF, f := 0xA0, pc := 0x0102, cost := 2 } [] = true := by decide
theorem test_v172_bit_0_hl :
    ends [0xCB, 0x46] { zero with h := 0xC0, l := 0x00, f := 0x10 } [(0xC000, 0xFE)]
      { zero with h := 0xC0, l := 0x00, f := 0xB0, pc := 0x0102, cost := 3 } [] = true := by decide
theorem test_v175_res_0_b :
    ends [0xCB, 0x80] { zero with b := 0xFF, f := 0xF0 } []
      { zero with b := 0xFE, f := 0xF0, pc := 0x0102, cost := 2 } [] = true := by decide
theorem test_v177_res_0_hl :
    ends [0xCB, 0x86] { zero with h := 0xFF, l := 0x0F } [(0xFF0F, 0x01)]
      { zero with h := 0xFF, l := 0x0F, f := 0x00, pc := 0x0102, cost := 4 } [(0xFF0F, 0x00)] = true := by decide
theorem test_v178_set_3_a :
    ends [0xCB, 0xDF] { zero with a := 0x80 } []
      { zero with a := 0x88, f := 0x00, pc := 0x0102, cost := 2 } [] = true := by decide
theorem test_v180_set_3_hl :
    ends [0xCB, 0xDE] { zero with h := 0xC0, l := 0x00 } [(0xC000, 0x00)]
      { zero with h := 0xC0, l := 0x00, f := 0x00, pc := 0x0102, cost := 4 } [(0xC000, 0x08)] = true := by decide
theorem test_v185_executes_nop :
    ends [0x00] { zero with pc := 0x0153, ime := true } [(0xFF0F, 0x01), (0xFFFF, 0x00)]
      { zero with pc := 0x0154, ime := true, imep := .idle, cost := 1 } [(0xFF0F, 0x01)] = true := by decide
theorem test_v187_fatal :
    stops [0x00] { zero with pc := 0x0153, ime := true } [(0xFF0F, 0x04), (0xFFFF, 0x04)]
      (.unsupportedInterrupt 0x0153 0x04) = true := by decide
theorem test_v190_executes_nop :
    ends [0x00] { zero with pc := 0x0153, ime := true } [(0xFF0F, 0x04), (0xFFFF, 0x01)]
      { zero with pc := 0x0154, ime := true, imep := .idle, cost := 1 } [(0xFF0F, 0x04)] = true := by decide
theorem test_v196_fatal :
    stops [0xD3] { zero with pc := 0x0153, ime := true } [(0xFF0F, 0x01), (0xFFFF, 0x00)]
      (.unknownPrimaryOpcode 0x0153 0xD3) = true := by decide
theorem test_v201_dtu :
    tickEnds 1 { zero with acc := 452 } [(0xFF40, 0x80), (0xFF44, 0x8F), (0xFF0F, 0x00)]
      { zero with acc := 0, frameReady := true } [(0xFF44, 0x90), (0xFF0F, 0x01)] = true := by decide
theorem test_v203_dtu :
    tickEnds 1 { zero with acc := 452 } [(0xFF40, 0x80), (0xFF44, 0x8F), (0xFF0F, 0xE0)]
      { zero with acc := 0, frameReady := true } [(0xFF44, 0x90), (0xFF0F, 0xE1)] = true := by decide
theorem test_v205_dtu :
    tickEnds 1 { zero with acc := 452 } [(0xFF40, 0x80), (0xFF44, 0x99), (0xFF0F, 0x00)]
      { zero with acc := 0, frameReady := false } [(0xFF44, 0x00), (0xFF0F, 0x00)] = true := by decide
theorem test_v207_dtu :
    tickEnds 1 { zero with acc := 452 } [(0xFF40, 0x80), (0xFF44, 0xFF), (0xFF0F, 0x00)]
      { zero with acc := 0, frameReady := false } [(0xFF44, 0x66), (0xFF0F, 0x00)] = true := by decide
theorem test_v209_dtu :
    tickEnds 342 { zero with acc := 0 } [(0xFF40, 0x80), (0xFF44, 0x8E), (0xFF0F, 0x00)]
      { zero with acc := 0, frameReady := true } [(0xFF44, 0x91), (0xFF0F, 0x01)] = true := by decide
theorem test_v211_dtu :
    tickEnds 1 { zero with acc := 452 } [(0xFF40, 0x7F), (0xFF44, 0x8F), (0xFF0F, 0x00)]
      { zero with acc := 452, frameReady := false } [(0xFF44, 0x00), (0xFF0F, 0x00)] = true := by decide

/-! ### More of the spec's examples -/

/-- V182, V183, V192: the two values of the open parameter, and what the entry does whichever holds. -/
theorem test_v183_acknowledge :
    ((poke zero [(0xFF0F, 0x03)]).acknowledge true).readByte 0xFF0F = 0x02 ∧
      ((poke zero [(0xFF0F, 0x03)]).acknowledge false).readByte 0xFF0F = 0x03 := by decide
theorem test_v192_dispatch (s : State) :
    (dispatch s).ime = false ∧ (dispatch s).pc = 0x0040 ∧ (dispatch s).cost = 5 ∧ (dispatch s).imep = s.imep := by
  unfold dispatch State.acknowledge
  cases dispatchClearsIf <;> exact ⟨rfl, rfl, rfl, rfl⟩
/-- S4 and V215: a word at 0xFFFF wraps to 0x0000. -/
theorem test_v215_word_wraps :
    (zero.writeWord 0xFFFF 0xABCD).readByte 0xFFFF = 0xCD ∧ (zero.writeWord 0xFFFF 0xABCD).readByte 0x0000 = 0xAB ∧
      (zero.writeWord 0xFFFF 0xABCD).readWord 0xFFFF = 0xABCD := by decide
/-- V217, V218: the ROM region takes a write, the echo range is no mirror. -/
theorem test_v218_no_mirror :
    (zero.writeByte 0x0000 0x55).readByte 0x0000 = 0x55 ∧ (zero.writeByte 0xE000 0x66).readByte 0xC000 = 0x00 := by decide
/-- S5: push and pop. -/
theorem test_s5_stack :
    (zero.push16 0xBEEF).sp = 0xFFFC ∧ (zero.push16 0xBEEF).readByte 0xFFFC = 0xEF ∧ (zero.push16 0xBEEF).popValue = 0xBEEF := by
  decide
/-- 20_memory.md R66: one address of each end of two regions. -/
theorem test_regions : region 0x7FFF = .rom ∧ region 0x8000 = .vram ∧ region 0xFF80 = .highRam ∧ region 0xFFFF = .interruptEnable := by
  decide
/-- 70_reset_and_hazards.md R351: a type byte that is not 0 is Fatal. -/
theorem test_cartridge_type :
    ({ State.reset with mem := State.reset.mem.set 0x0147 0x01 }).checkCartridge.fatal =
      some (.unsupportedCartridge 0x0147 0x01) := by decide
/-- A cell that gets its reset contents back leaves the list. -/
theorem test_memory_canonical : (Memory.set (Memory.set [] 0xFF40 0x00) 0xFF40 0x91) = [] := by decide
/-- withFetchWord puts the word where the next tick fetches it. -/
theorem test_withFetchWord : (State.reset.withFetchWord 16 0x053E).readWord State.reset.pc = 0x053E := by decide

/-! ### Witnesses: the hypotheses of the statements are met -/

/-- The bytes at 0x0100 of a state with memory 0. -/
def placed (code : List Byte) : State := zero.storeBytes 0x0100 code

theorem placed_executes (code : List Byte) (h : (placed code).ime = false ∧ (placed code).fatal = none) :
    (placed code).executes := ⟨h.2, .inl h.1⟩

/-- The bytes at PC decode to `i`. -/
def decodesTo (s : State) (i : Instr) : Bool :=
  match decode s.codeBytes with
  | .ok (j, _) => decide (j = i)
  | .error _ => false

theorem decodesAt_of {s : State} {i : Instr} (h : decodesTo s i = true) : s.decodesAt i := by
  unfold decodesTo at h
  split at h
  · rename_i j rest hd
    exact ⟨rest, (of_decide_eq_true h) ▸ hd⟩
  · cases h

theorem zero_inv : zero.Inv :=
  ⟨by unfold State.flagsLowZero; decide, by unfold State.accInRange; decide, by unfold State.memCanonical; decide⟩

theorem witness_DecodeUndoesEncode : (Instr.callA16 0x1234).wellFormed = true ∧ Instr.set7IndHl.wellFormed = true := by decide

theorem witness_EncodeUndoesDecode :
    decode [0xCD, 0x34, 0x12, 0x00] = .ok (.callA16 0x1234, [0x00]) ∧ decode [0xCB, 0x37] = .ok (.swapA, []) := ⟨rfl, rfl⟩

theorem witness_EveryEntryCompletes : Instr.nop.noEntryByte = none ∧ (Instr.prefixCb 0xFF).noEntryByte = none := by decide

theorem witness_TickIsFatalExactlyOnBytesWithoutEntry :
    ((placed [0xD3]).executes ∧ (placed [0xD3]).readByte (placed [0xD3]).pc ∈ bytesWithoutEntry) ∧
      ((placed [0x00]).executes ∧ (placed [0x00]).readByte (placed [0x00]).pc ∉ bytesWithoutEntry) :=
  ⟨⟨placed_executes _ (by decide), by decide⟩, ⟨placed_executes _ (by decide), by decide⟩⟩

theorem witness_NoInstructionWritesImeAccFatal : ∃ t, exec .ei zero = .next t := ⟨_, rfl⟩

theorem witness_OnlyEiDiRetiArmTheSlot : (∃ t, exec .ret zero = .next t) ∧ Instr.ret ∉ armingInstrs := ⟨⟨_, rfl⟩, by decide⟩

theorem witness_OnlyNamedInstructionsMoveSp : (∃ t, exec .nop zero = .next t) ∧ ¬ movesSp .nop := by
  refine ⟨⟨_, rfl⟩, ?_⟩
  rintro (h | ⟨_, h⟩ | ⟨cc, _, h⟩ | ⟨_, h⟩ | ⟨_, h⟩)
  · exact absurd h (by decide)
  · cases h
  · cases cc <;> cases h
  · cases h
  · cases h

theorem witness_InstructionsStoreOnlyTheirBytes :
    (∃ t, exec .pushBc zero = .next t) ∧ (∃ t, exec (.callNzA16 0x1234) zero = .next t) ∧
      (∃ t, exec (.prefixCb 0x06) zero = .next t) ∧ ∃ t, exec .cpIndHl zero = .next t := ⟨⟨_, rfl⟩, ⟨_, rfl⟩, ⟨_, rfl⟩, ⟨_, rfl⟩⟩

theorem witness_MemoryReadsWhatWasWritten : zero.memCanonical ∧ State.reset.memCanonical := by
  unfold State.memCanonical
  decide

theorem witness_WordsAreLittleEndianAndRoundTrip : zero.memCanonical := zero_inv.mem

theorem witness_CanonicalMemoriesAreEqualData :
    Memory.wf [] = true ∧ Memory.wf [(0x0000, 0x01), (0xFF40, 0x00), (0xFFFF, 0x01)] = true := by decide

theorem witness_CanonicalMemoriesAreEqualData_same (x : Word) :
    (Memory.set [] 0xC000 0x01).get x.toNat = Memory.get [(0xC000, 0x01)] x.toNat := rfl

theorem witness_RegistersAndPairsReadBack : Reg.a ≠ Reg.b := by decide

theorem witness_LoadsCopyOneByte : ¬ (Opnd8.indHl = .indHl ∧ Opnd8.reg .a = .indHl) := by decide

theorem witness_PushStoresThePairBelowSp : zero.memCanonical ∧ { zero with sp := 0x0001 }.memCanonical :=
  ⟨zero_inv.mem, zero_inv.mem⟩

theorem witness_PushThenPopRestoresPairAndSp :
    zero.Inv ∧ (∃ t, exec (pushForm .af) zero = .next t) ∧ ∃ t, exec (pushForm .hl) zero = .next t :=
  ⟨zero_inv, ⟨_, rfl⟩, ⟨_, rfl⟩⟩

/-- The three operand forms of every accumulator operation are sources. -/
theorem witness_accSource (op : AluOp) :
    accSource op (aluForm op (.reg .b)) zero zero.b 1 ∧
      accSource op (aluForm op .indHl) zero (zero.readByte zero.hl) 2 ∧ accSource op (aluImmForm op 0xFF) zero 0xFF 2 :=
  ⟨.inl ⟨.b, rfl, rfl, rfl⟩, .inr (.inl ⟨rfl, rfl, rfl⟩), .inr (.inr ⟨rfl, rfl⟩)⟩

theorem witness_AddSetsAccumulatorAndFlags : accSource .add .addB { zero with a := 0xFF, b := 0x01 } 0x01 1 :=
  .inl ⟨.b, rfl, rfl, rfl⟩

theorem witness_AdcSetsAccumulatorAndFlags : accSource .adc (.adcD8 0x00) { zero with a := 0xFF, f := 0x10 } 0x00 2 :=
  .inr (.inr ⟨rfl, rfl⟩)

theorem witness_SubSetsAccumulatorAndFlags : accSource .sub .subE { zero with e := 0xFF } 0xFF 1 := .inl ⟨.e, rfl, rfl, rfl⟩

theorem witness_SbcSetsAccumulatorAndFlags : accSource .sbc (.sbcD8 0xFF) { zero with f := 0x10 } 0xFF 2 :=
  .inr (.inr ⟨rfl, rfl⟩)

theorem witness_LogicSetsAccumulatorAndFlags :
    accSource .and .andL zero 0x00 1 ∧ accSource .xor .xorA zero 0x00 1 ∧ accSource .or .orIndHl zero 0x00 2 :=
  ⟨.inl ⟨.l, rfl, rfl, rfl⟩, .inl ⟨.a, rfl, rfl, rfl⟩, .inr (.inl ⟨rfl, by decide, rfl⟩)⟩

theorem witness_CompareSetsFlagsAndKeepsAccumulator : accSource .cp (.cpD8 0x90) { zero with a := 0x90 } 0x90 2 :=
  .inr (.inr ⟨rfl, rfl⟩)

theorem witness_RotateFamiliesDifferInZero :
    (Instr.rlca, Instr.rlcA) ∈ [(Instr.rlca, Instr.rlcA), (.rrca, .rrcA), (.rla, .rlA), (.rra, .rrA)] := by decide

/-- Every condition is met in one state and not in another (AbsoluteJumps, RelativeJumps, CallsAndRestartsPushPc,
ReturnsPopPc). -/
theorem witness_conditions (cc : Cond) : (∃ s : State, s.cond cc = true) ∧ ∃ s : State, s.cond cc = false := by
  cases cc
  · exact ⟨⟨zero, by decide⟩, ⟨{ zero with f := 0xF0 }, by decide⟩⟩
  · exact ⟨⟨{ zero with f := 0xF0 }, by decide⟩, ⟨zero, by decide⟩⟩
  · exact ⟨⟨zero, by decide⟩, ⟨{ zero with f := 0xF0 }, by decide⟩⟩
  · exact ⟨⟨{ zero with f := 0xF0 }, by decide⟩, ⟨zero, by decide⟩⟩

theorem witness_ReturnUndoesCall :
    zero.memCanonical ∧ (∃ t, exec (.callA16 0x1234) zero = .next t) ∧ (∃ t, exec (rstForm .n7) zero = .next t) ∧
      (∃ x, Instr.callA16 0x1234 = .callA16 x) ∧ ∃ n, rstForm .n7 = rstForm n :=
  ⟨zero_inv.mem, ⟨_, rfl⟩, ⟨_, rfl⟩, ⟨_, rfl⟩, ⟨_, rfl⟩⟩

theorem witness_StepRunsTheDecodedInstruction :
    ((placed [0x04]).executes ∧ (placed [0x04]).decodesAt .incB ∧
        ∃ t, exec .incB { (placed [0x04]).advanceImeDelay with pc := 0x0101 } = .next t) ∧
      ((placed [0x76]).executes ∧ (placed [0x76]).decodesAt .halt ∧
        ∃ f, exec .halt { (placed [0x76]).advanceImeDelay with pc := 0x0101 } = .fault f) :=
  ⟨⟨placed_executes _ (by decide), ⟨_, rfl⟩, ⟨_, rfl⟩⟩, ⟨placed_executes _ (by decide), ⟨_, rfl⟩, ⟨_, rfl⟩⟩⟩

/-- IME on, with the requests and enables given. -/
def pending (requests enables : Byte) : State := poke { zero with ime := true } [(0xFF0F, requests), (0xFFFF, enables)]

theorem witness_VBlankDispatch :
    (pending 0x03 0x01).fatal = none ∧ (pending 0x03 0x01).ime = true ∧
      ((pending 0x03 0x01).readByte 0xFF0F#16 &&& (pending 0x03 0x01).readByte 0xFFFF#16).getLsbD 0 = true := by decide

theorem witness_UnsupportedInterruptIsFatal :
    (pending 0x80 0xFE).fatal = none ∧ (pending 0x80 0xFE).ime = true ∧
      (pending 0x80 0xFE).readByte 0xFF0F#16 &&& (pending 0x80 0xFE).readByte 0xFFFF#16 ≠ 0#8 ∧
      ((pending 0x80 0xFE).readByte 0xFF0F#16 &&& (pending 0x80 0xFE).readByte 0xFFFF#16).getLsbD 0 = false := by decide

/-- A tick that executes, with `code` at PC and the slot at `p`, goes on. -/
def advances (code : Byte) (i : Instr) (p : Imep) : Prop :=
  { placed [code] with imep := p }.executes ∧ { placed [code] with imep := p }.decodesAt i ∧
    isNext (step { placed [code] with imep := p }) = true

theorem advances_of {code : Byte} {i : Instr} {p : Imep}
    (h : (decodesTo { placed [code] with imep := p } i && isNext (step { placed [code] with imep := p })) = true)
    (he : (placed [code]).ime = false ∧ (placed [code]).fatal = none) : advances code i p := by
  rw [Bool.and_eq_true] at h
  exact ⟨⟨he.2, .inl he.1⟩, decodesAt_of h.1, h.2⟩

/-- The slot at each of its values, an instruction that does not arm it, and the three that do. -/
theorem witness_ImeDelayTransitions (p : Imep) :
    (advances 0x00 .nop p ∧ Instr.nop ∉ armingInstrs) ∧ advances 0xFB .ei p ∧ advances 0xF3 .di p ∧ advances 0xD9 .reti p := by
  refine ⟨⟨advances_of ?_ (by decide), by decide⟩, advances_of ?_ (by decide), advances_of ?_ (by decide),
    advances_of ?_ (by decide)⟩ <;>
  · rcases p with _ | ⟨b, k⟩
    · decide
    · cases b <;> cases k <;> decide

/-- The state a tick leaves, for a tick that goes on. -/
def ticked (s : State) : State :=
  match step s with
  | .next t => t
  | .fault _ => s
  | .refused _ => s

theorem step_ticked {s : State} (h : isNext (step s) = true) : step s = .next (ticked s) := by
  obtain ⟨t, ht⟩ := exists_next h
  rw [ticked, ht]

/-- The trace of S7: EI, NOP, NOP. -/
theorem witness_EnableTakesEffectTwoTicksLater :
    ∃ s0 s1 s2 s3 : State, s0.ime = false ∧ s0.imep ≠ .armed true .one ∧ s0.decodesAt .ei ∧ step s0 = .next s1 ∧
      s1.decodesAt .nop ∧ Instr.nop ∉ armingInstrs ∧ step s1 = .next s2 ∧ s2.decodesAt .nop ∧ step s2 = .next s3 :=
  ⟨placed [0xFB], ticked (placed [0xFB]), ticked (ticked (placed [0xFB])), ticked (ticked (ticked (placed [0xFB]))),
    by decide, by decide, decodesAt_of (by decide), step_ticked (by decide), decodesAt_of (by decide),
    by decide, step_ticked (by decide), decodesAt_of (by decide),
    step_ticked (by decide)⟩

theorem witness_FatalIsAbsorbing :
    { zero with fatal := some (.unsupportedCartridge 0x0147 0x01) }.fatal = some (.unsupportedCartridge 0x0147 0x01) ∧
      ∃ t, step zero = .next t := ⟨rfl, exists_next (by decide)⟩

theorem witness_StepKeepsStateInvariants :
    zero.Inv ∧ zero.accWholeCycles ∧ ∃ t, step zero = .next t :=
  ⟨zero_inv, by unfold State.accWholeCycles; decide, exists_next (by decide)⟩

theorem witness_DtuWithLcdOffForcesLyToZero : zero.memCanonical ∧ (zero.readByte 0xFF40#16).getLsbD 7 = false :=
  ⟨zero_inv.mem, by decide⟩

/-- A display with the LCD on, at a line and a number of display clocks. -/
def display (ly : Byte) (clocks : Nat) : State := poke { zero with acc := clocks } [(0xFF40, 0x80), (0xFF44, ly)]

/-- No line ends (452 clocks and none more); one ends that is line 144; one ends that is not; two end, and 144 is between
them; a stored line above 153. -/
theorem witness_DtuCountsScanlinesAndRaisesVBlank :
    ((display 143 452).memCanonical ∧ ((display 143 452).readByte 0xFF40#16).getLsbD 7 = true) ∧
      0 = ((display 143 452).acc + 4 * 0) / 456 ∧ 1 = ((display 143 452).acc + 4 * 1) / 456 ∧
      (∃ k, 0 < k ∧ k ≤ 1 ∧ (((display 143 452).readByte 0xFF44#16).toNat + k) % 154 = 144) ∧
      (¬ ∃ k, 0 < k ∧ k ≤ 1 ∧ (((display 144 452).readByte 0xFF44#16).toNat + k) % 154 = 144) ∧
      (2 = ((display 142 0).acc + 4 * 228) / 456 ∧
        ∃ k, 0 < k ∧ k ≤ 2 ∧ (((display 142 0).readByte 0xFF44#16).toNat + k) % 154 = 144) ∧
      1 = ((display 255 452).acc + 4 * 1) / 456 := by
  have h143 : ((display 143 452).readByte 0xFF44#16).toNat = 143 := by decide
  have h144 : ((display 144 452).readByte 0xFF44#16).toNat = 144 := by decide
  have h142 : ((display 142 0).readByte 0xFF44#16).toNat = 142 := by decide
  refine ⟨⟨by unfold State.memCanonical; decide, by decide⟩, by decide, by decide, ⟨1, by decide, by decide, ?_⟩, ?_,
    ⟨by decide, 2, by decide, by decide, ?_⟩, by decide⟩
  · rw [h143]
  · rintro ⟨k, h1, h2, h3⟩
    rw [h144] at h3
    omega
  · rw [h142]

theorem witness_BootLoadsAndChecksTheCartridge :
    65536 < (List.replicate 65537 (0x00 : Byte)).length ∧ (List.replicate 65536 (0x00 : Byte)).length ≤ 65536 ∧
      (([0x00] : List Byte)[0x0147]?).getD 0#8 = 0#8 ∧ ((List.replicate 0x0148 (0x01 : Byte))[0x0147]?).getD 0#8 ≠ 0#8 := by
  refine ⟨?_, ?_, rfl, ?_⟩
  · rw [List.length_replicate]
    omega
  · exact Nat.le_of_eq (List.length_replicate ..)
  · decide

end Sys2Proof.Tests
end

section
/-! SUPPORT. The family of 10_state.md: what an instruction and a step leave unchanged, the invariants between ticks,
memories as data, registers and flags. -/

namespace Sys2Proof.Machine

/-! ### What a shape leaves, but for the cost -/

/-- What the extended page's entry for `op2` leaves (30_encoding.md R96), but for the cost. -/
def State.extendedEffect (s : State) (op2 : Byte) : State :=
  let o := opndField (fieldZ op2)
  match fieldX op2 with
  | 0 => s.modified o (rotFn (rotField (fieldY op2)) (s.operand o) s.flagC)
  | 1 => s.applyFlags (bit8 (bitField (fieldY op2)) (s.operand o))
  | 2 => s.setOperand o (res8 (bitField (fieldY op2)) (s.operand o))
  | _ => s.setOperand o (set8 (bitField (fieldY op2)) (s.operand o))

/-- What a shape that completes leaves, but for the cost; `run_next` ties it to the model. -/
def Shape.effect (sh : Shape) (s : State) : State :=
  match sh with
  | .nop => s
  | .noEntry _ => s
  | .di => s.armIme false
  | .ei => s.armIme true
  | .load d o => s.setOperand d (s.operand o)
  | .loadImm d v => s.setOperand d v
  | .loadAcc m => { s.afterAccess m with a := s.readByte (s.effAddr m) }
  | .storeAcc m => (s.writeByte (s.effAddr m) s.a).afterAccess m
  | .loadPair p v => s.setPair p v
  | .storeSp x => s.writeWord x s.sp
  | .loadSpHl => { s with sp := s.hl }
  | .loadHlSp e => (s.setHl (addsp s.sp e).1).applyFlags (addsp s.sp e).2
  | .pushPair p => s.push16 (s.stackPair p)
  | .popPair p => s.popState.setStackPair p s.popValue
  | .accumulate op o => s.accumulated op (s.operand o)
  | .accumulateImm op v => s.accumulated op v
  | .increment o => s.modified o (inc8 (s.operand o))
  | .decrement o => s.modified o (dec8 (s.operand o))
  | .complementAcc => ({ s with a := (cpl8 s.a).1 }).applyFlags (cpl8 s.a).2
  | .setCarry => s.applyFlags scfFlags
  | .complementCarry => s.applyFlags (ccfFlags s.flagC)
  | .addToHl p => (s.setHl (add16 s.hl (s.pair p)).1).applyFlags (add16 s.hl (s.pair p)).2
  | .incrementPair p => s.setPair p (s.pair p + 1)
  | .decrementPair p => s.setPair p (s.pair p - 1)
  | .addToSp e => ({ s with sp := (addsp s.sp e).1 }).applyFlags (addsp s.sp e).2
  | .rotateAcc op => ({ s with a := (accRotFn op s.a s.flagC).1 }).applyFlags (accRotFn op s.a s.flagC).2
  | .jump t => { s with pc := t }
  | .jumpIf cc t => if s.cond cc then { s with pc := t } else s
  | .jumpHl => { s with pc := s.hl }
  | .jumpRelative e => { s with pc := s.pc + sext e }
  | .jumpRelativeIf cc e => if s.cond cc then { s with pc := s.pc + sext e } else s
  | .call t => s.called t
  | .callIf cc t => if s.cond cc then s.called t else s
  | .ret => s.returned
  | .retIf cc => if s.cond cc then s.returned else s
  | .retInterrupt => s.returnFromInterrupt
  | .restart t => s.called (restartTarget t)
  | .rotate op o => s.modified o (rotFn op (s.operand o) s.flagC)
  | .testBit n o => s.applyFlags (bit8 n (s.operand o))
  | .resetBit n o => s.setOperand o (res8 n (s.operand o))
  | .setBit n o => s.setOperand o (set8 n (s.operand o))
  | .extendedOp op2 => s.extendedEffect op2

/-- An operation that answers by `done` has written the cost last. -/
theorem done_next {n : Nat} {u t : State} (h : done n u = .next t) : ∃ k, t = { u with cost := k } :=
  ⟨n, (Host.Outcome.next.inj h).symm⟩

/-- A conditional operation leaves one of two states, each with a cost of its own. -/
theorem done_ite_next {b : Bool} {n m : Nat} {u v t : State} (h : (if b then done n u else done m v) = .next t) :
    ∃ k, t = { (if b then u else v) with cost := k } := by
  cases b
  · exact done_next (u := v) h
  · exact done_next (u := u) h

theorem extendedOp_next {op2 : Byte} {s t : State} (h : extendedOp op2 s = .next t) :
    ∃ k, t = { s.extendedEffect op2 with cost := k } := by
  unfold extendedOp at h
  unfold State.extendedEffect
  generalize opndField (fieldZ op2) = o, fieldX op2 = x at h ⊢
  rcases x with _ | _ | _ | x <;> cases o <;> exact done_next h

/-- The one thing said of every shape: if it answers a next state, that state is its effect with a cost. -/
theorem Shape.run_next {sh : Shape} {s t : State} (h : sh.run s = .next t) :
    ∃ k, t = { sh.effect s with cost := k } := by
  cases sh
  case noEntry => cases h
  case load d o => cases d <;> cases o <;> exact done_next h
  case loadImm o _ | increment o | decrement o => cases o <;> exact done_next h
  case accumulate _ o | rotate _ o | testBit _ o | resetBit _ o | setBit _ o => cases o <;> exact done_next h
  case jumpIf | jumpRelativeIf | callIf | retIf => exact done_ite_next h
  case extendedOp => exact extendedOp_next h
  all_goals exact done_next h

/-- What `exec` can do: leave the effect of the instruction's shape, with a cost. -/
theorem exec_next {i : Instr} {s t : State} (h : exec i s = .next t) :
    ∃ k, t = { (shapeOf i).effect s with cost := k } :=
  Shape.run_next (exec_eq_run i s ▸ h)

/-! ### What every instruction keeps -/

theorem Shape.effect_hiddenKept (sh : Shape) (s : State) : hiddenKept s (sh.effect s) := by
  cases sh
  case jumpIf | jumpRelativeIf | callIf | retIf | extendedOp =>
    simp only [Shape.effect, State.extendedEffect]
    split <;> simp [hiddenKept, State.called, State.returned, State.modified]
  all_goals
    simp [Shape.effect, hiddenKept, State.modified, State.accumulated, State.called, State.returned,
      State.returnFromInterrupt]

theorem exec_hiddenKept {i : Instr} {s t : State} (h : exec i s = .next t) : hiddenKept s t := by
  obtain ⟨k, rfl⟩ := exec_next h
  exact (shapeOf i).effect_hiddenKept s

/-- Settles O7: every shape's effect keeps the four fields, and the cost is another field. -/
theorem noInstructionWritesImeAccFatal : Obligations.NoInstructionWritesImeAccFatal := fun _ _ _ => exec_hiddenKept

/-! ### The pending-change slot -/

/-- The shapes that arm the pending-change slot (10_state.md R29). -/
def Shape.arms : Shape → Bool
  | .di | .ei | .retInterrupt => true
  | _ => false

theorem mem_armingInstrs_of_arms {i : Instr} (h : (shapeOf i).arms = true) : i ∈ armingInstrs := by
  cases i
  case ei | di | reti => simp [armingInstrs]
  all_goals cases h

theorem Shape.effect_imep {sh : Shape} (h : sh.arms = false) (s : State) : (sh.effect s).imep = s.imep := by
  cases sh
  case di | ei | retInterrupt => cases h
  case jumpIf | jumpRelativeIf | callIf | retIf | extendedOp =>
    simp only [Shape.effect, State.extendedEffect]
    split <;> simp [State.called, State.returned, State.modified]
  all_goals simp [Shape.effect, State.modified, State.accumulated, State.called, State.returned]

/-- Settles O8: an instruction whose shape arms the slot is EI, DI or RETI, and every other shape's effect keeps it. -/
theorem onlyEiDiRetiArmTheSlot : Obligations.OnlyEiDiRetiArmTheSlot := by
  intro i s t h hi
  obtain ⟨k, rfl⟩ := exec_next h
  have harms : (shapeOf i).arms = false := Bool.eq_false_iff.mpr fun ha => hi (mem_armingInstrs_of_arms ha)
  exact Shape.effect_imep harms s

/-! ### SP -/

/-- The shapes that change SP (10_state.md R27). -/
def Shape.movesSp : Shape → Bool
  | .pushPair _ | .popPair _ | .call _ | .callIf _ _ | .restart _ | .ret | .retIf _ | .retInterrupt => true
  | .loadPair .sp _ | .incrementPair .sp | .decrementPair .sp | .loadSpHl | .addToSp _ => true
  | _ => false

theorem movesSp_of_shape {i : Instr} (h : (shapeOf i).movesSp = true) : movesSp i := by
  cases i
  case callA16 x => exact .inr (.inl ⟨x, rfl⟩)
  case callNzA16 x => exact .inr (.inr (.inl ⟨.nz, x, rfl⟩))
  case callZA16 x => exact .inr (.inr (.inl ⟨.z, x, rfl⟩))
  case callNcA16 x => exact .inr (.inr (.inl ⟨.nc, x, rfl⟩))
  case callCA16 x => exact .inr (.inr (.inl ⟨.c, x, rfl⟩))
  case ldSpD16 v => exact .inr (.inr (.inr (.inl ⟨v, rfl⟩)))
  case addSpE8 e => exact .inr (.inr (.inr (.inr ⟨e, rfl⟩)))
  case pushBc | pushDe | pushHl | pushAf | popBc | popDe | popHl | popAf | rst00 | rst08 | rst10 | rst18 | rst20 |
      rst28 | rst30 | rst38 | ret | reti | retNz | retZ | retNc | retC | ldSpHl | incSp | decSp =>
    exact .inl (by decide)
  all_goals cases h

theorem Shape.effect_sp {sh : Shape} (h : sh.movesSp = false) (s : State) : (sh.effect s).sp = s.sp := by
  cases sh
  case pushPair | popPair | call | callIf | restart | ret | retIf | retInterrupt | loadSpHl | addToSp => cases h
  case loadPair p _ | incrementPair p | decrementPair p =>
    cases p
    case sp => cases h
    all_goals simp [Shape.effect, State.setPair]
  case jumpIf | jumpRelativeIf | extendedOp =>
    simp only [Shape.effect, State.extendedEffect]
    split <;> simp [State.modified]
  all_goals simp [Shape.effect, State.modified, State.accumulated]

/-- Settles O9: an instruction whose shape moves SP is one of those named, and every other shape's effect keeps SP. -/
theorem onlyNamedInstructionsMoveSp : Obligations.OnlyNamedInstructionsMoveSp := by
  intro i s t h hi
  obtain ⟨k, rfl⟩ := exec_next h
  have hmoves : (shapeOf i).movesSp = false := Bool.eq_false_iff.mpr fun hm => hi (movesSp_of_shape hm)
  exact Shape.effect_sp hmoves s

/-! ### The invariants through an instruction -/

theorem Shape.effect_flagsLowZero (sh : Shape) {s : State} (h : s.flagsLowZero) : (sh.effect s).flagsLowZero := by
  cases sh
  case accumulate | accumulateImm | increment | decrement | complementAcc | setCarry | complementCarry | addToHl |
      addToSp | loadHlSp | rotateAcc | rotate | testBit =>
    exact applyFlags_flagsLowZero _ _
  case popPair p =>
    cases p
    case af => exact setAf_flagsLowZero _ _
    all_goals exact h
  case jumpIf | jumpRelativeIf | callIf | retIf =>
    simp only [Shape.effect]
    split <;> exact h
  case extendedOp =>
    simp only [Shape.effect, State.extendedEffect]
    split
    · exact applyFlags_flagsLowZero _ _
    · exact applyFlags_flagsLowZero _ _
    · simpa [State.flagsLowZero] using h
    · simpa [State.flagsLowZero] using h
  all_goals simpa [Shape.effect, State.flagsLowZero, State.called, State.returned, State.returnFromInterrupt] using h

theorem State.modified_memCanonical {s : State} (h : s.memCanonical) (o : Opnd8) (r : AluOut) :
    (s.modified o r).memCanonical :=
  setOperand_memCanonical h o r.1

theorem Shape.effect_memCanonical (sh : Shape) {s : State} (h : s.memCanonical) : (sh.effect s).memCanonical := by
  cases sh
  case load | loadImm | resetBit | setBit => exact setOperand_memCanonical h _ _
  case increment | decrement | rotate => exact State.modified_memCanonical h _ _
  case storeAcc m => simpa [Shape.effect, State.memCanonical] using writeByte_memCanonical h (s.effAddr m) s.a
  case storeSp => exact writeWord_memCanonical h _ _
  case pushPair | call | restart => exact push16_memCanonical h _
  case callIf =>
    simp only [Shape.effect]
    split
    · exact push16_memCanonical h _
    · exact h
  case jumpIf | jumpRelativeIf | retIf =>
    simp only [Shape.effect]
    split <;> exact h
  case extendedOp =>
    simp only [Shape.effect, State.extendedEffect]
    split
    · exact State.modified_memCanonical h _ _
    · exact h
    · exact setOperand_memCanonical h _ _
    · exact setOperand_memCanonical h _ _
  all_goals
    simpa [Shape.effect, State.memCanonical, State.accumulated, State.returned, State.returnFromInterrupt] using h

theorem exec_inv {i : Instr} {s t : State} (h : exec i s = .next t) (hi : s.Inv) : t.Inv := by
  obtain ⟨-, hacc, -, -⟩ := exec_hiddenKept h
  obtain ⟨k, rfl⟩ := exec_next h
  refine ⟨Shape.effect_flagsLowZero _ hi.flags, ?_, Shape.effect_memCanonical _ hi.mem⟩
  rw [State.accInRange, hacc]
  exact hi.acc

/-! ### What a tick can do -/

/-- Fetching moves PC alone, so a tick that executes runs some instruction on the state with another PC (30_encoding.md
R99, 60_exceptions.md R315). -/
theorem executeOne_eq_exec (s : State) : ∃ i p, executeOne s = exec i { s with pc := p } := by
  unfold executeOne
  split <;> exact ⟨_, _, rfl⟩

/-- The CPU step dispatches the interrupt, or executes after the advance of the IME delay (60_exceptions.md R310). -/
theorem cpuStep_next {s u : State} (h : cpuStep s = .next u) :
    (s.checkPasses = true ∧ bitOf s.pendingEnabled vblankBit = true ∧ u = dispatch s) ∨
      (s.checkPasses = false ∧ executeOne s.advanceImeDelay = .next u) := by
  unfold cpuStep at h
  split at h
  · rename_i hc
    split at h
    · rename_i hb
      exact .inl ⟨hc, hb, (Host.Outcome.next.inj h).symm⟩
    · cases h
  · rename_i hc
    exact .inr ⟨Bool.eq_false_iff.mpr hc, h⟩

/-- A step that goes on is a CPU step and then the DTU tick of its cost (60_exceptions.md R310, R318). -/
theorem step_next {s t : State} (h : step s = .next t) :
    s.fatal = none ∧ ∃ u, cpuStep s = .next u ∧ t = dtuTick u.cost u := by
  unfold step tick at h
  split at h
  · cases h
  · rename_i hf
    refine ⟨hf, ?_⟩
    unfold finishTick at h
    split at h
    · rename_i u hu
      exact ⟨u, hu, (Host.Outcome.next.inj h).symm⟩
    · cases h
    · cases h

theorem dispatch_inv {s : State} (hi : s.Inv) : (dispatch s).Inv where
  flags := by simpa [dispatch, State.flagsLowZero] using hi.flags
  acc := by simpa [dispatch, State.accInRange] using hi.acc
  mem := dispatch_memCanonical hi.mem

theorem dispatch_acc (s : State) : (dispatch s).acc = s.acc := by simp [dispatch]

/-- The CPU step keeps the invariants and does not touch ACC. -/
theorem cpuStep_inv {s u : State} (h : cpuStep s = .next u) (hi : s.Inv) : u.Inv ∧ u.acc = s.acc := by
  rcases cpuStep_next h with ⟨-, -, rfl⟩ | ⟨-, he⟩
  · exact ⟨dispatch_inv hi, dispatch_acc s⟩
  · obtain ⟨i, p, hx⟩ := executeOne_eq_exec s.advanceImeDelay
    rw [hx] at he
    obtain ⟨-, hacc, -, -⟩ := exec_hiddenKept he
    have hadv : { s.advanceImeDelay with pc := p }.Inv :=
      ⟨by simpa [State.flagsLowZero] using hi.flags, by simpa [State.accInRange] using hi.acc,
        by simpa [State.memCanonical] using hi.mem⟩
    exact ⟨exec_inv he hadv, by simpa using hacc⟩

/-! ### The display timing unit -/

@[simp] theorem State.scanline_f (s : State) : s.scanline.f = s.f := by rw [scanline_eq]

@[simp] theorem State.scanline_acc (s : State) : s.scanline.acc = s.acc - linePeriod := by rw [scanline_eq]

theorem State.scanlines_f (n : Nat) (s : State) : (State.scanlines n s).f = s.f := by
  induction n generalizing s with
  | zero => rfl
  | succ n ih => rw [State.scanlines, ih, State.scanline_f]

theorem State.scanlines_acc (n : Nat) (s : State) : (State.scanlines n s).acc = s.acc - n * linePeriod := by
  induction n generalizing s with
  | zero => simp [State.scanlines]
  | succ n ih =>
    rw [State.scanlines, ih, State.scanline_acc, Nat.sub_sub, Nat.succ_mul, Nat.add_comm]

theorem State.scanlines_memCanonical (n : Nat) {s : State} (h : s.memCanonical) :
    (State.scanlines n s).memCanonical := by
  induction n generalizing s with
  | zero => exact h
  | succ n ih => exact ih (scanline_memCanonical h)

/-- With the LCD on the scanline loop runs once for each whole 456 in ACC (60_exceptions.md R326, R327). -/
theorem dtuTick_of_lcdOn {s : State} (h : s.readBit lcdcAddr lcdEnableBit = true) (cost : Nat) :
    dtuTick cost s = State.scanlines ((s.acc + dotsPerMCycle * cost) / linePeriod)
      { s with frameReady := false, acc := s.acc + dotsPerMCycle * cost } :=
  if_pos h

/-- With the LCD off only LY and the output are written (60_exceptions.md R325). -/
theorem dtuTick_of_lcdOff {s : State} (h : s.readBit lcdcAddr lcdEnableBit = false) (cost : Nat) :
    dtuTick cost s = { s with frameReady := false }.writeByte lyAddr 0x00#8 :=
  if_neg (Bool.eq_false_iff.mp h)

/-- ACC keeps the remainder of the line (60_exceptions.md R327). -/
theorem dtuTick_acc_of_lcdOn {s : State} (h : s.readBit lcdcAddr lcdEnableBit = true) (cost : Nat) :
    (dtuTick cost s).acc = (s.acc + 4 * cost) % 456 := by
  rw [dtuTick_of_lcdOn h, State.scanlines_acc]
  simp only [dotsPerMCycle, linePeriod]
  omega

theorem dtuTick_acc_of_lcdOff {s : State} (h : s.readBit lcdcAddr lcdEnableBit = false) (cost : Nat) :
    (dtuTick cost s).acc = s.acc := by
  rw [dtuTick_of_lcdOff h, State.writeByte_acc]

theorem dtuTick_inv {s : State} (hi : s.Inv) (cost : Nat) : (dtuTick cost s).Inv := by
  cases h : s.readBit lcdcAddr lcdEnableBit
  case true =>
    refine ⟨?_, ?_, ?_⟩
    · rw [State.flagsLowZero, dtuTick_of_lcdOn h, State.scanlines_f]
      exact hi.flags
    · rw [State.accInRange, dtuTick_acc_of_lcdOn h]
      omega
    · rw [dtuTick_of_lcdOn h]
      exact State.scanlines_memCanonical _ hi.mem
  case false =>
    rw [dtuTick_of_lcdOff h]
    exact ⟨hi.flags, hi.acc, writeByte_memCanonical hi.mem _ _⟩

theorem dtuTick_accWholeCycles {s : State} (hs : s.accWholeCycles) (cost : Nat) : (dtuTick cost s).accWholeCycles := by
  unfold State.accWholeCycles at hs ⊢
  cases h : s.readBit lcdcAddr lcdEnableBit
  case true =>
    rw [dtuTick_acc_of_lcdOn h]
    omega
  case false =>
    rw [dtuTick_acc_of_lcdOff h]
    exact hs

/-- Settles O55: the CPU step keeps the invariants and ACC, and the DTU tick keeps the invariants and adds whole
m-cycles to ACC modulo 456. -/
theorem stepKeepsStateInvariants : Obligations.StepKeepsStateInvariants := by
  intro s t hi h
  obtain ⟨-, u, hu, rfl⟩ := step_next h
  obtain ⟨hui, hacc⟩ := cpuStep_inv hu hi
  refine ⟨dtuTick_inv hui _, fun hs => dtuTick_accWholeCycles ?_ _⟩
  rw [State.accWholeCycles, hacc]
  exact hs

/-- Settles O56, by evaluating the reset state. -/
theorem resetMeetsStateInvariants : Obligations.ResetMeetsStateInvariants := by
  have hinv : State.reset.Inv := ⟨by unfold State.flagsLowZero; decide, Nat.zero_le _, rfl⟩
  exact ⟨hinv, rfl, rfl, rfl, rfl, rfl, by decide, by decide, by decide, by decide⟩

/-! ### Memories as data -/

theorem Memory.wfFrom_cons {lo k : Nat} {v : Byte} {m : Memory} :
    Memory.wfFrom lo ((k, v) :: m) = true ↔ lo ≤ k ∧ k < 65536 ∧ v ≠ resetByte k ∧ m.wfFrom (k + 1) = true := by
  simp [Memory.wfFrom, and_assoc]

theorem Memory.get_cons_self (k : Nat) (v : Byte) (m : Memory) : Memory.get ((k, v) :: m) k = v := if_pos rfl

theorem Memory.get_cons_ne {k a : Nat} (v : Byte) (m : Memory) (h : k ≠ a) :
    Memory.get ((k, v) :: m) a = m.get a := if_neg h

/-- An entry of a canonical memory shows in a read: a canonical memory that reads the same there has no lower bound
above it. -/
theorem Memory.le_of_get_eq {lo lo' k : Nat} {v : Byte} {m m' : Memory} (h : Memory.wfFrom lo ((k, v) :: m) = true)
    (h' : m'.wfFrom lo' = true) (heq : m'.get k = v) : lo' ≤ k := by
  obtain ⟨-, -, hv, -⟩ := Memory.wfFrom_cons.mp h
  by_contra hlt
  exact hv (heq.symm.trans (Memory.get_of_lt h' (Nat.lt_of_not_le hlt)))

/-- Canonical memories that read the same at every address are the same list: their first entries are at one address,
below which neither has any, and there the rest of both reads the reset contents. -/
theorem Memory.eq_of_get_eq {lo lo' : Nat} {m m' : Memory} (h : m.wfFrom lo = true) (h' : m'.wfFrom lo' = true)
    (hget : ∀ a, a < 65536 → Memory.get m a = Memory.get m' a) : m = m' := by
  induction m generalizing lo lo' m' with
  | nil =>
    cases m' with
    | nil => rfl
    | cons p m' =>
      obtain ⟨k', v'⟩ := p
      obtain ⟨-, hk', hv', -⟩ := Memory.wfFrom_cons.mp h'
      exact absurd ((hget k' hk').trans (Memory.get_cons_self k' v' m')).symm hv'
  | cons p m ih =>
    obtain ⟨k, v⟩ := p
    obtain ⟨-, hk, hv, hm⟩ := Memory.wfFrom_cons.mp h
    have hkget : m'.get k = v := (hget k hk).symm.trans (Memory.get_cons_self k v m)
    cases m' with
    | nil => exact absurd hkget.symm hv
    | cons p' m' =>
      obtain ⟨k', v'⟩ := p'
      obtain ⟨-, hk', hv', hm'⟩ := Memory.wfFrom_cons.mp h'
      have hkget' : Memory.get ((k, v) :: m) k' = v' := (hget k' hk').trans (Memory.get_cons_self k' v' m')
      have hle : k' ≤ k := Memory.le_of_get_eq h (Memory.wfFrom_cons.mpr ⟨Nat.le_refl k', hk', hv', hm'⟩) hkget
      have hge : k ≤ k' := Memory.le_of_get_eq h' (Memory.wfFrom_cons.mpr ⟨Nat.le_refl k, hk, hv, hm⟩) hkget'
      obtain rfl : k = k' := Nat.le_antisymm hge hle
      obtain rfl : v = v' := (Memory.get_cons_self k v m).symm.trans hkget'
      have hrest : ∀ a, a < 65536 → Memory.get m a = Memory.get m' a := fun a ha => by
        by_cases hka : k = a
        · subst hka
          rw [Memory.get_of_lt hm (Nat.lt_succ_self k), Memory.get_of_lt hm' (Nat.lt_succ_self k)]
        · rw [← Memory.get_cons_ne v m hka, hget a ha, Memory.get_cons_ne v m' hka]
      rw [ih hm hm' hrest]

/-- Settles O13: every address of the space is a word. -/
theorem canonicalMemoriesAreEqualData : Obligations.CanonicalMemoriesAreEqualData := fun _ _ h h' hget =>
  Memory.eq_of_get_eq h h' fun a ha => by
    simpa [Nat.mod_eq_of_lt ha] using hget (BitVec.ofNat 16 a)

/-! ### Registers, pairs and flags -/

theorem wordOf_and_high (hi lo : Byte) : wordOf hi (lo &&& 0xF0#8) = wordOf hi lo &&& 0xFFF0#16 := by
  have hmask : (0xFFF0#16 : Word) = 0xFF#8 ++ 0xF0#8 := rfl
  have hhi : hi &&& 0xFF#8 = hi := BitVec.and_allOnes
  rw [wordOf, wordOf, hmask, BitVec.and_append, hhi]

theorem State.af_setAf (s : State) (v : Word) : (s.setAf v).af = v &&& 0xFFF0#16 := by
  rw [State.af, State.setAf_a, State.setAf_f, wordOf_and_high, wordOf_high_low]

theorem State.setReg_reg_restore (s : State) (r : Reg) (v : Byte) : (s.setReg r v).setReg r (s.reg r) = s := by
  cases r <;> rfl

/-- Settles O14: registers by the seven cases, pairs as a word and its two bytes. -/
theorem registersAndPairsReadBack : Obligations.RegistersAndPairsReadBack :=
  ⟨fun s r v => ⟨s.reg_setReg_self r v, fun _ hq => s.reg_setReg_ne v hq, s.setReg_reg_restore r v⟩,
    fun _ => ⟨wordOf_toNat _ _, wordOf_toNat _ _, wordOf_toNat _ _, wordOf_toNat _ _⟩,
    fun s v => ⟨wordOf_high_low v, wordOf_high_low v, wordOf_high_low v, s.af_setAf v⟩⟩

/-- A bit of a byte by arithmetic on its value. -/
theorem bitOf_eq_true_iff (v : Byte) (i : Nat) : bitOf v i = true ↔ v.toNat / 2 ^ i % 2 = 1 := by
  simp [bitOf, BitVec.getLsbD, Nat.testBit_eq_decide_div_mod_eq]

theorem bitOf_eq_false_iff (v : Byte) (i : Nat) : bitOf v i = false ↔ v.toNat / 2 ^ i % 2 = 0 := by
  rw [← Bool.not_eq_true, bitOf_eq_true_iff]
  omega

/-- Settles O15: a packed flag byte reads back its four flags, and a flag is a bit of F. -/
theorem flagsSitInBits7To4 : Obligations.FlagsSitInBits7To4 := by
  refine ⟨fun s r => ⟨applyFlags_flagsLowZero s r, bitOf_packFlags_z .., bitOf_packFlags_n .., bitOf_packFlags_h ..,
    bitOf_packFlags_c .., rfl⟩, fun s => ?_, fun s => ⟨?_, bitOf_eq_true_iff s.f 7, ?_, bitOf_eq_true_iff s.f 4⟩⟩
  · exact ⟨bitOf_eq_true_iff s.f 7, bitOf_eq_true_iff s.f 6, bitOf_eq_true_iff s.f 5, bitOf_eq_true_iff s.f 4⟩
  · exact Bool.not_eq_true' _ ▸ bitOf_eq_false_iff s.f 7
  · exact Bool.not_eq_true' _ ▸ bitOf_eq_false_iff s.f 4

end Sys2Proof.Machine
end

section
/-! SUPPORT. The family of 20_memory.md: the bytes an instruction stores to, words in memory, and the stack's round
trip. -/

namespace Sys2Proof.Machine

/-! ### The bytes an instruction stores to -/

/-- The addresses that a write of an 8-bit operand stores to (30_encoding.md R92). -/
def State.operandAddrs (s : State) : Opnd8 → List Word
  | .reg _ => []
  | .indHl => [s.hl]

/-- The addresses a shape stores to; `storedAddrs_eq_stored` ties it to the statement's own table. -/
def Shape.stored (sh : Shape) (s : State) : List Word :=
  match sh with
  | .load o _ | .loadImm o _ | .increment o | .decrement o | .rotate _ o | .resetBit _ o | .setBit _ o =>
    s.operandAddrs o
  | .extendedOp op2 => if fieldX op2 = 1 then [] else s.operandAddrs (opndField (fieldZ op2))
  | .storeAcc m => [s.effAddr m]
  | .storeSp x => [x, x + 1]
  | .pushPair _ | .call _ | .restart _ => s.stackSlot
  | .callIf cc _ => if s.cond cc then s.stackSlot else []
  | _ => []

/-- Of the eight operand fields, 6 alone names memory (30_encoding.md R92). -/
theorem State.operandAddrs_opndField (s : State) (z : Nat) :
    s.operandAddrs (opndField z) = if z = 6 then [s.hl] else [] := by
  match z with
  | 0 | 1 | 2 | 3 | 4 | 5 | 6 | _ + 7 => rfl

/-- On the extended page every group but `BIT` stores to its operand (30_encoding.md R96). -/
theorem Shape.stored_extendedOp (op2 : Byte) (s : State) :
    (Shape.extendedOp op2).stored s = if fieldX op2 ≠ 1 ∧ fieldZ op2 = 6 then [s.hl] else [] := by
  rw [Shape.stored, State.operandAddrs_opndField]
  by_cases hx : fieldX op2 = 1
  · rw [if_pos hx, if_neg fun h => h.1 hx]
  · simp [hx]

theorem storedAddrs_eq_stored (i : Instr) (s : State) : storedAddrs i s = (shapeOf i).stored s := by
  cases i
  case prefixCb op2 => exact (Shape.stored_extendedOp op2 s).symm
  all_goals rfl

theorem memKeptBut_of_mem_eq {s t : State} (h : t.mem = s.mem) (xs : List Word) : memKeptBut xs s t :=
  fun x _ => readByte_congr h x

theorem setOperand_memKeptBut (s : State) (o : Opnd8) (v : Byte) :
    memKeptBut (s.operandAddrs o) s (s.setOperand o v) := by
  cases o with
  | reg r => exact memKeptBut_of_mem_eq (s.setReg_mem r v) _
  | indHl => exact writeByte_memKeptBut s s.hl v

theorem State.extendedEffect_memKeptBut (s : State) (op2 : Byte) :
    memKeptBut ((Shape.extendedOp op2).stored s) s (s.extendedEffect op2) := by
  simp only [Shape.stored, State.extendedEffect]
  generalize fieldX op2 = x
  match x with
  | 1 => exact memKeptBut_of_mem_eq rfl _
  | 0 | 2 | _ + 3 => exact setOperand_memKeptBut s _ _

/-- Every shape's effect keeps the bytes that the shape does not store to: the stores are the operand's, the mode's, a
word's or a push's, and all other shapes leave memory as it is. -/
theorem Shape.effect_memKeptBut (sh : Shape) (s : State) : memKeptBut (sh.stored s) s (sh.effect s) := by
  cases sh
  case load | loadImm | increment | decrement | rotate | resetBit | setBit => exact setOperand_memKeptBut s _ _
  case extendedOp op2 => exact s.extendedEffect_memKeptBut op2
  case storeAcc m =>
    intro x hx
    rw [← writeByte_memKeptBut s (s.effAddr m) s.a x hx]
    exact readByte_congr (State.afterAccess_mem _ m) x
  case storeSp x => exact writeWord_memKeptBut s x s.sp
  case pushPair | call | restart => exact push16_memKeptBut s _
  case callIf cc t =>
    simp only [Shape.stored, Shape.effect]
    split
    · exact push16_memKeptBut s s.pc
    · exact memKeptBut_of_mem_eq rfl _
  case jumpIf | jumpRelativeIf | retIf =>
    simp only [Shape.effect]
    split <;> exact memKeptBut_of_mem_eq rfl _
  all_goals exact memKeptBut_of_mem_eq (by simp [Shape.effect, State.accumulated, State.returned,
    State.returnFromInterrupt]) _

/-- Settles O10: an instruction leaves its shape's effect, and the cost is no byte of memory. -/
theorem instructionsStoreOnlyTheirBytes : Obligations.InstructionsStoreOnlyTheirBytes := by
  intro i s t h
  obtain ⟨k, rfl⟩ := exec_next h
  rw [storedAddrs_eq_stored]
  exact (shapeOf i).effect_memKeptBut s

/-! ### Bytes and words -/

/-- Settles O11: the write's read, frame and canonical form, and memory is the only field it writes. -/
theorem memoryReadsWhatWasWritten : Obligations.MemoryReadsWhatWasWritten := fun s x v h =>
  ⟨readByte_writeByte_self h x v, writeByte_memKeptBut s x v, writeByte_memCanonical h x v, rfl⟩

theorem readWord_toNat (s : State) (x : Word) :
    (s.readWord x).toNat = (s.readByte x).toNat + 256 * (s.readByte (x + 1)).toNat := by
  rw [State.readWord, wordOf_toNat]
  omega

theorem readWord_writeWord {s : State} (h : s.memCanonical) (x v : Word) : (s.writeWord x v).readWord x = v := by
  rw [State.readWord, readByte_writeWord_high h, readByte_writeWord_low h, wordOf_high_low]

/-- Settles O12: the word written stands as its two bytes, and the word read is put together from them. -/
theorem wordsAreLittleEndianAndRoundTrip : Obligations.WordsAreLittleEndianAndRoundTrip := by
  intro s x v h
  refine ⟨readWord_toNat s x, ?_, ?_, writeWord_memKeptBut s x v, readWord_writeWord h x v⟩
  · rw [readByte_writeWord_low h, lowByte_toNat]
  · rw [readByte_writeWord_high h, highByte_toNat]

/-! ### The stack's round trip -/

theorem exec_pushForm (p : StackPair) (s : State) : exec (pushForm p) s = pushPair p s := by
  cases p <;> rfl

theorem exec_popForm (p : StackPair) (s : State) : exec (popForm p) s = popPair p s := by
  cases p <;> rfl

/-- Loading a pair with the value it has changes nothing; for AF this needs the zero low nibble of F (10_state.md
R23). -/
theorem State.setStackPair_stackPair {s : State} (h : s.flagsLowZero) (p : StackPair) :
    s.setStackPair p (s.stackPair p) = s := by
  cases p
  case af => simp [State.setStackPair, State.stackPair, State.setAf, State.af, and_high_of_low h]
  all_goals
    simp [State.setStackPair, State.stackPair, State.setBc, State.bc, State.setDe, State.de, State.setHl, State.hl]

/-- What a pop after `PUSH` has before it: the pair's value to pop, and SP back where it was, since it falls by 2 and
rises by 2 (20_memory.md R67, R68). -/
theorem pushPair_next {p : StackPair} {s t : State} (hm : s.memCanonical) (h : pushPair p s = .next t) :
    t.popValue = s.stackPair p ∧ t.popState = { s with mem := t.mem, cost := t.cost } := by
  obtain rfl := Host.Outcome.next.inj h
  have hsp : s.sp - 2 + 2 = s.sp := BitVec.sub_add_cancel s.sp 2
  refine ⟨popValue_push16 hm _, ?_⟩
  rw [State.popState, State.push16_sp, hsp]
  rfl

/-- Settles O25: the pair is loaded with the value it still holds, in a state that differs in memory and cost alone. -/
theorem pushThenPopRestoresPairAndSp : Obligations.PushThenPopRestoresPairAndSp := by
  intro p s t hi h
  rw [exec_pushForm] at h
  obtain ⟨hvalue, hstate⟩ := pushPair_next hi.mem h
  have hpair := State.setStackPair_stackPair (s := { s with mem := t.mem, cost := t.cost }) hi.flags p
  rw [exec_popForm, popPair, hvalue, hstate]
  exact congrArg (done Cost.pop) hpair

end Sys2Proof.Machine
end

section
/-! SUPPORT. The family of 30_encoding.md: the decoder, made from the patterns of the fields, and the encoder, made from
the opcode map, are each other's inverse. -/

namespace Sys2Proof

/-! ### An opcode's entry filled with an operand -/

/-- The instruction that an entry gives with the operand `w`; an operand of one byte is the low byte of `w`
(30_encoding.md R90). -/
def Entry.instr (e : Entry) (w : Word) : Instr :=
  match e with
  | .whole i => i
  | .byte f => f (lowByte w)
  | .word f => f w
  | .ext => extended (lowByte w)

/-- The bytes that stand after the opcode byte of an entry for the operand `w`, low byte first (30_encoding.md R97). -/
def Entry.operandBytes (e : Entry) (w : Word) : List Byte :=
  match e with
  | .whole _ => []
  | .byte _ => [lowByte w]
  | .word _ => wordBytes w
  | .ext => [lowByte w]

/-- The decoder reads an opcode byte and its operand bytes as the filled entry, whatever follows. -/
theorem decode_operandBytes (o : Byte) (w : Word) (rest : List Byte) :
    decode (o :: (primary o).operandBytes w ++ rest) = .ok ((primary o).instr w, rest) := by
  cases hp : primary o <;> simp [decode, hp, Entry.instr, Entry.operandBytes, wordBytes]

/-- The decoder answers nothing else: what it accepts is an opcode byte with its operand bytes and the rest. -/
theorem decode_ok {bs : List Byte} {i : Instr} {rest : List Byte} (h : decode bs = .ok (i, rest)) :
    ∃ o w, i = (primary o).instr w ∧ bs = o :: (primary o).operandBytes w ++ rest := by
  match bs with
  | [] => cases h
  | o :: bs =>
    refine ⟨o, ?_⟩
    cases hp : primary o
    case whole j =>
      simp only [decode, hp] at h
      cases h
      exact ⟨0, rfl, rfl⟩
    case byte | ext =>
      match bs with
      | [] => simp [decode, hp] at h
      | v :: bs =>
        simp only [decode, hp] at h
        cases h
        exact ⟨wordOf 0 v, by simp [Entry.instr], by simp [Entry.operandBytes]⟩
    case word f =>
      match bs with
      | [] | [_] => simp [decode, hp] at h
      | lo :: hi :: bs =>
        simp only [decode, hp] at h
        cases h
        exact ⟨wordOf hi lo, rfl, by simp [Entry.operandBytes, wordBytes]⟩

end Sys2Proof

namespace Sys2Proof.Machine

/-! ### Encodings decode -/

/-- Settles O1, row by row: a word comes back from its two bytes, and the other rows' bytes decode by evaluation. -/
theorem decodeUndoesEncode : Obligations.DecodeUndoesEncode := by
  intro i rest hi
  cases i
  case prefixCb => cases hi
  case ldBcD16 w | ldDeD16 w | ldHlD16 w | ldSpD16 w | ldIndA16Sp w | ldIndA16A w | ldAIndA16 w | jpA16 w | jpNzA16 w |
      jpZA16 w | jpNcA16 w | jpCA16 w | callA16 w | callNzA16 w | callZA16 w | callNcA16 w | callCA16 w =>
    exact decode_operandBytes _ w rest
  all_goals rfl

/-- `bs` is the encoding of `i`, and `i` is an instruction by itself. -/
def encodesAs (i : Instr) (bs : List Byte) : Prop := encode i = bs ∧ i.wellFormed = true

theorem bytesAre_of_encodesAs {i : Instr} {bs : List Byte} (h : encodesAs i bs) : bytesAre bs i := by
  obtain ⟨rfl, hi⟩ := h
  exact fun rest => decodeUndoesEncode i rest hi

/-- Settles O3: the sample words are the encodings of their instructions. -/
theorem sampleWordsDecode : Obligations.SampleWordsDecode := by
  refine ⟨?_, ?_, ?_, ?_, ?_, ?_, ?_, ?_, ?_, ?_, ?_⟩ <;> exact bytesAre_of_encodesAs ⟨rfl, rfl⟩

/-! ### What the decoder's rows encode to -/

theorem opndNo_opndField {n : Nat} (h : n < 8) : opndNo (opndField n) = n := by
  interval_cases n <;> rfl

theorem aluNo_aluField {n : Nat} (h : n < 8) : aluNo (aluField n) = n := by
  interval_cases n <;> rfl

theorem rotNo_rotField {n : Nat} (h : n < 8) : rotNo (rotField n) = n := by
  interval_cases n <;> rfl

theorem toNat_bitField {n : Nat} (h : n < 8) : (bitField n).toNat = n := by
  interval_cases n <;> rfl

/-- `01dddsss` (30_encoding.md R100). -/
theorem ldForm_encodesAs (d o : Opnd8) : encodesAs (ldForm d o) [opc (0x40 + 8 * opndNo d + opndNo o)] := by
  rcases d with ⟨_ | _⟩ | _ <;> rcases o with ⟨_ | _⟩ | _ <;> exact ⟨rfl, rfl⟩

/-- `10aaasss` (30_encoding.md R95, R100). -/
theorem aluForm_encodesAs (op : AluOp) (o : Opnd8) :
    encodesAs (aluForm op o) [opc (0x80 + 8 * aluNo op + opndNo o)] := by
  cases op <;> rcases o with ⟨_ | _⟩ | _ <;> exact ⟨rfl, rfl⟩

/-- Extended `00ooorrr` (30_encoding.md R96, R101). -/
theorem rotForm_encodesAs (op : RotOp) (o : Opnd8) :
    encodesAs (rotForm op o) [0xCB#8, opc (8 * rotNo op + opndNo o)] := by
  cases op <;> rcases o with ⟨_ | _⟩ | _ <;> exact ⟨rfl, rfl⟩

/-- Extended `01bbbrrr` (30_encoding.md R96, R101). -/
theorem bitForm_encodesAs (n : BitNo) (o : Opnd8) :
    encodesAs (bitForm n o) [0xCB#8, opc (0x40 + 8 * n.toNat + opndNo o)] := by
  cases n <;> rcases o with ⟨_ | _⟩ | _ <;> exact ⟨rfl, rfl⟩

/-- Extended `10bbbrrr` (30_encoding.md R96, R101). -/
theorem resForm_encodesAs (n : BitNo) (o : Opnd8) :
    encodesAs (resForm n o) [0xCB#8, opc (0x80 + 8 * n.toNat + opndNo o)] := by
  cases n <;> rcases o with ⟨_ | _⟩ | _ <;> exact ⟨rfl, rfl⟩

/-- Extended `11bbbrrr` (30_encoding.md R96, R101). -/
theorem setForm_encodesAs (n : BitNo) (o : Opnd8) :
    encodesAs (setForm n o) [0xCB#8, opc (0xC0 + 8 * n.toNat + opndNo o)] := by
  cases n <;> rcases o with ⟨_ | _⟩ | _ <;> exact ⟨rfl, rfl⟩

/-! ### The two tables agree with the encoder -/

/-- A byte is its three fields put together, and how large they are (30_encoding.md R91). -/
theorem byte_fields (o : Byte) :
    fieldX o < 4 ∧ fieldY o < 8 ∧ fieldZ o < 8 ∧ o = opc (64 * fieldX o + 8 * fieldY o + fieldZ o) := by
  have hlt : o.toNat < 256 := o.isLt
  refine ⟨by rw [fieldX]; omega, Nat.mod_lt _ (by decide), Nat.mod_lt _ (by decide), BitVec.eq_of_toNat_eq ?_⟩
  rw [opc, BitVec.toNat_ofNat, fieldX, fieldY, fieldZ]
  omega

theorem extended_encodesAs (v : Byte) : encodesAs (extended v) [0xCB#8, v] := by
  obtain ⟨hx, hy, hz, hv⟩ := byte_fields v
  rw [extended]
  generalize fieldX v = x, fieldY v = y, fieldZ v = z at *
  subst hv
  match x, hx with
  | 0, _ =>
    simpa only [rotNo_rotField hy, opndNo_opndField hz, Nat.mul_zero, Nat.zero_add] using
      rotForm_encodesAs (rotField y) (opndField z)
  | 1, _ => simpa only [toNat_bitField hy, opndNo_opndField hz] using bitForm_encodesAs (bitField y) (opndField z)
  | 2, _ => simpa only [toNat_bitField hy, opndNo_opndField hz] using resForm_encodesAs (bitField y) (opndField z)
  | 3, _ => simpa only [toNat_bitField hy, opndNo_opndField hz] using setForm_encodesAs (bitField y) (opndField z)

/-- Every instruction of the entry is encoded as the opcode byte `o` and the entry's operand bytes. -/
def encodedBy (e : Entry) (o : Byte) : Prop := ∀ w, encodesAs (e.instr w) (o :: e.operandBytes w)

theorem ext_encodedBy : encodedBy .ext 0xCB#8 := fun w => extended_encodesAs (lowByte w)

theorem quadrant0_encodedBy {y z : Nat} (hy : y < 8) (hz : z < 8) :
    encodedBy (quadrant0 y z) (opc (0x00 + 8 * y + z)) := by
  interval_cases z <;> interval_cases y <;> exact fun _ => ⟨rfl, rfl⟩

/-- Of quadrant 3 the prefix byte alone stands for a whole table. -/
theorem quadrant3_encodedBy {y z : Nat} (hy : y < 8) (hz : z < 8) :
    encodedBy (quadrant3 y z) (opc (0xC0 + 8 * y + z)) := by
  match z, hz with
  | 3, _ =>
    match y, hy with
    | 1, _ => exact ext_encodedBy
    | 0, _ | 2, _ | 3, _ | 4, _ | 5, _ | 6, _ | 7, _ => exact fun _ => ⟨rfl, rfl⟩
  | 0, _ | 1, _ | 2, _ | 4, _ | 5, _ | 6, _ | 7, _ => interval_cases y <;> exact fun _ => ⟨rfl, rfl⟩

theorem primary_encodedBy (o : Byte) : encodedBy (primary o) o := by
  obtain ⟨hx, hy, hz, ho⟩ := byte_fields o
  rw [primary]
  generalize fieldX o = x, fieldY o = y, fieldZ o = z at *
  subst ho
  match x, hx with
  | 0, _ => exact quadrant0_encodedBy hy hz
  | 1, _ =>
    have hform := ldForm_encodesAs (opndField y) (opndField z)
    rw [opndNo_opndField hy, opndNo_opndField hz] at hform
    exact fun _ => hform
  | 2, _ =>
    have hform := aluForm_encodesAs (aluField y) (opndField z)
    rw [aluNo_aluField hy, opndNo_opndField hz] at hform
    exact fun _ => hform
  | 3, _ => exact quadrant3_encodedBy hy hz

/-- Settles O2: what decodes is a filled entry of the primary table, and each entry is encoded by its opcode byte. -/
theorem encodeUndoesDecode : Obligations.EncodeUndoesDecode := by
  intro bs i rest h
  obtain ⟨o, w, rfl, rfl⟩ := decode_ok h
  obtain ⟨hencode, hwf⟩ := primary_encodedBy o w
  exact ⟨by rw [hencode], hwf⟩

end Sys2Proof.Machine
end

section
/-! SUPPORT. The family of 40_alu.md: each function of the ALU by arithmetic on numbers, and the instructions that apply
one to the accumulator, to an operand or to HL. -/

namespace Sys2Proof.Machine

/-! ### Bytes and numbers -/

/-- The zero test of a result is a test of the number it is made from, modulo 256. -/
theorem ofNat_beq_zero (n : Nat) : (BitVec.ofNat 8 n == 0#8) = decide (n % 256 = 0) := by
  rw [Bool.eq_iff_iff, beq_iff_eq, decide_eq_true_iff, ← BitVec.toNat_inj]
  simp

theorem ofNat_mod_256 (n : Nat) : BitVec.ofNat 8 (n % 256) = BitVec.ofNat 8 n :=
  BitVec.eq_of_toNat_eq (by simp)

/-- A difference on unbounded numbers gives the byte of any natural number congruent to it (00_scope.md R7). -/
theorem ofInt_eq_ofNat {i : Int} {n : Nat} (h : i % 256 = n % 256) : BitVec.ofInt 8 i = BitVec.ofNat 8 n := by
  apply BitVec.eq_of_toNat_eq
  simp only [BitVec.toNat_ofInt, BitVec.toNat_ofNat]
  omega

theorem and_0FFF_toNat (w : Word) : (w &&& 0x0FFF#16).toNat = w.toNat % 4096 := by
  rw [BitVec.toNat_and]
  exact Nat.and_two_pow_sub_one_eq_mod w.toNat 12

theorem bitOf_seven (v : Byte) : bitOf v 7 = decide (v.toNat / 128 = 1) := by
  have hv : v.toNat < 256 := v.isLt
  rw [Bool.eq_iff_iff, bitOf_eq_true_iff, decide_eq_true_iff]
  omega

theorem bitOf_zero (v : Byte) : bitOf v 0 = decide (v.toNat % 2 = 1) := by
  rw [Bool.eq_iff_iff, bitOf_eq_true_iff, decide_eq_true_iff]
  omega

theorem bitByte_toNat (b : Bool) : (bitByte b).toNat = b.toNat := by
  cases b <;> rfl

theorem toNat_bitOf_zero (v : Byte) : (bitOf v 0).toNat = v.toNat % 2 := by
  rw [bitOf_zero]
  rcases Nat.mod_two_eq_zero_or_one v.toNat with h | h <;> simp [h]

theorem shiftLeft_toNat (v : Byte) (k : Nat) : (v <<< k).toNat = v.toNat * 2 ^ k % 256 := by
  rw [BitVec.toNat_shiftLeft, Nat.shiftLeft_eq]

theorem shiftRight_toNat (v : Byte) (k : Nat) : (v >>> k).toNat = v.toNat / 2 ^ k := by
  rw [BitVec.toNat_ushiftRight, Nat.shiftRight_eq_div_pow]

/-- A byte with zeros below bit `k`, put together with one below bit `k`, is their sum. -/
theorem or_toNat_of_lt {x y : Byte} (k : Nat) (hx : x.toNat % 2 ^ k = 0) (hy : y.toNat < 2 ^ k) :
    (x ||| y).toNat = x.toNat + y.toNat := by
  obtain ⟨q, hq⟩ := Nat.dvd_of_mod_eq_zero hx
  rw [BitVec.toNat_or, hq, Nat.two_pow_add_eq_or_of_lt hy]

/-- `y` enters bit 0 as the byte goes left. -/
theorem shiftLeft_or_toNat (v : Byte) {y : Byte} (hy : y.toNat < 2) :
    ((v <<< 1) ||| y).toNat = v.toNat * 2 % 256 + y.toNat := by
  have hshift : (v <<< 1).toNat = v.toNat * 2 % 256 := shiftLeft_toNat v 1
  rw [or_toNat_of_lt 1 (by omega) hy, hshift]

/-- `y` enters bit 7 as the byte goes right. -/
theorem shiftRight_or_toNat (v : Byte) {y : Byte} (hy : y.toNat % 128 = 0) :
    ((v >>> 1) ||| y).toNat = v.toNat / 2 + y.toNat := by
  have hv : v.toNat < 256 := v.isLt
  have hshift : (v >>> 1).toNat = v.toNat / 2 := shiftRight_toNat v 1
  rw [BitVec.or_comm, or_toNat_of_lt 7 hy (by omega), hshift, Nat.add_comm]

theorem bitByte_shiftLeft_toNat (b : Bool) : (bitByte b <<< 7).toNat = b.toNat * 128 := by
  cases b <;> rfl

theorem and_0x80_toNat (v : Byte) : (v &&& 0x80#8).toNat = v.toNat / 128 * 128 := by
  revert v
  decide

/-! ### Sums and differences -/

theorem adc8_eq (a b : Byte) (cin : Bool) :
    adc8 a b cin = (BitVec.ofNat 8 ((a.toNat + b.toNat + cin.toNat) % 256),
      { z := some (decide ((a.toNat + b.toNat + cin.toNat) % 256 = 0)), n := some false,
        h := some (decide (a.toNat % 16 + b.toNat % 16 + cin.toNat > 15)),
        c := some (decide (a.toNat + b.toNat + cin.toNat > 255)) }) := by
  simp only [adc8, ofNat_beq_zero, ofNat_mod_256, low4_eq_mod]

/-- Without a carry in, addition with carry is addition (40_alu.md R111, R112). -/
theorem add8_eq_adc8 (a b : Byte) : add8 a b = adc8 a b false := rfl

theorem sbc8_eq (a b : Byte) (cin : Bool) :
    sbc8 a b cin = (BitVec.ofNat 8 ((a.toNat + 512 - b.toNat - cin.toNat) % 256),
      { z := some (decide ((a.toNat + 512 - b.toNat - cin.toNat) % 256 = 0)), n := some true,
        h := some (decide (a.toNat % 16 < b.toNat % 16 + cin.toNat)),
        c := some (decide (a.toNat < b.toNat + cin.toNat)) }) := by
  have hb : b.toNat < 256 := b.isLt
  have hcin : cin.toNat < 2 := cin.toNat_lt
  have hres : BitVec.ofInt 8 (a.toNat - b.toNat - cin.toNat) = BitVec.ofNat 8 (a.toNat + 512 - b.toNat - cin.toNat) :=
    ofInt_eq_ofNat (by omega)
  simp only [sbc8, hres, ofNat_beq_zero, ofNat_mod_256, low4_eq_mod]

theorem sub8_eq (a b : Byte) :
    sub8 a b = (BitVec.ofNat 8 ((a.toNat + 256 - b.toNat) % 256),
      { z := some (decide ((a.toNat + 256 - b.toNat) % 256 = 0)), n := some true,
        h := some (decide (a.toNat % 16 < b.toNat % 16)), c := some (decide (a.toNat < b.toNat)) }) := by
  have hb : b.toNat < 256 := b.isLt
  have hres : BitVec.ofInt 8 (a.toNat - b.toNat) = BitVec.ofNat 8 (a.toNat + 256 - b.toNat) :=
    ofInt_eq_ofNat (by omega)
  simp only [sub8, hres, ofNat_beq_zero, ofNat_mod_256, low4_eq_mod]

/-- The difference of two bytes is zero modulo 256 exactly if they are equal. -/
theorem sub_mod_eq_zero_iff (a b : Byte) : (a.toNat + 256 - b.toNat) % 256 = 0 ↔ a = b := by
  have ha : a.toNat < 256 := a.isLt
  have hb : b.toNat < 256 := b.isLt
  rw [← BitVec.toNat_inj]
  omega

theorem cp8_eq (a b : Byte) :
    cp8 a b = { z := some (decide (a = b)), n := some true, h := some (decide (a.toNat % 16 < b.toNat % 16)),
                c := some (decide (a.toNat < b.toNat)) } := by
  simp only [cp8, sub8_eq, sub_mod_eq_zero_iff]

theorem inc8_eq (v : Byte) :
    inc8 v = (BitVec.ofNat 8 ((v.toNat + 1) % 256),
      { z := some (decide (v.toNat = 255)), n := some false, h := some (decide (v.toNat % 16 = 15)), c := none }) := by
  have hv : v.toNat < 256 := v.isLt
  have hz : (v.toNat + 1) % 256 = 0 ↔ v.toNat = 255 := by omega
  simp only [inc8, ofNat_beq_zero, ofNat_mod_256, low4_eq_mod, hz]
  rfl

theorem dec8_eq (v : Byte) :
    dec8 v = (BitVec.ofNat 8 ((v.toNat + 255) % 256),
      { z := some (decide (v.toNat = 1)), n := some true, h := some (decide (v.toNat % 16 = 0)), c := none }) := by
  have hv : v.toNat < 256 := v.isLt
  have hres : BitVec.ofInt 8 (v.toNat - 1) = BitVec.ofNat 8 (v.toNat + 255) := ofInt_eq_ofNat (by omega)
  have hz : (v.toNat + 255) % 256 = 0 ↔ v.toNat = 1 := by omega
  simp only [dec8, hres, ofNat_beq_zero, ofNat_mod_256, low4_eq_mod, hz]
  rfl

theorem add16_eq (hl w : Word) :
    add16 hl w = (BitVec.ofNat 16 ((hl.toNat + w.toNat) % 65536),
      { z := none, n := some false, h := some (decide (hl.toNat % 4096 + w.toNat % 4096 > 4095)),
        c := some (decide (hl.toNat + w.toNat > 65535)) }) := by
  have hres : BitVec.ofNat 16 ((hl.toNat + w.toNat) % 65536) = BitVec.ofNat 16 (hl.toNat + w.toNat) :=
    BitVec.eq_of_toNat_eq (by simp)
  simp only [add16, hres, and_0FFF_toNat]

/-! ### Bitwise operations -/

theorem and8_eq (a b : Byte) :
    and8 a b = (a &&& b, { z := some (decide (a &&& b = 0#8)), n := some false, h := some true, c := some false }) := rfl

theorem xor8_eq (a b : Byte) :
    xor8 a b = (a ^^^ b, { z := some (decide (a = b)), n := some false, h := some false, c := some false }) := by
  have hz : (a ^^^ b == 0#8) = decide (a = b) := by
    rw [Bool.eq_iff_iff, beq_iff_eq, decide_eq_true_iff, BitVec.xor_eq_zero_iff]
  simp only [xor8, hz]

theorem or8_eq (a b : Byte) :
    or8 a b = (a ||| b,
      { z := some (decide (a = 0#8 ∧ b = 0#8)), n := some false, h := some false, c := some false }) := by
  have hz : (a ||| b == 0#8) = decide (a = 0#8 ∧ b = 0#8) := by
    rw [Bool.eq_iff_iff, beq_iff_eq, decide_eq_true_iff, BitVec.or_eq_zero_iff]
  simp only [or8, hz]

theorem cpl8_eq (a : Byte) :
    cpl8 a = (BitVec.ofNat 8 (255 - a.toNat), { z := none, n := some true, h := some true, c := none }) := by
  have hres : a ^^^ 0xFF#8 = BitVec.ofNat 8 (255 - a.toNat) := by
    have hnot : a ^^^ 0xFF#8 = ~~~a := BitVec.xor_allOnes
    apply BitVec.eq_of_toNat_eq
    rw [hnot, BitVec.toNat_not, BitVec.toNat_ofNat]
    omega
  rw [cpl8, hres]

/-! ### Accumulator operations -/

theorem aluImmForm_encodesAs (op : AluOp) (v : Byte) :
    encodesAs (aluImmForm op v) [opc (0xC6 + 8 * aluNo op), v] := by
  cases op <;> exact ⟨rfl, rfl⟩

theorem accEncodings_all (op : AluOp) : accEncodings op :=
  ⟨fun o => bytesAre_of_encodesAs (aluForm_encodesAs op o), fun v => bytesAre_of_encodesAs (aluImmForm_encodesAs op v)⟩

theorem exec_aluForm (op : AluOp) (o : Opnd8) (s : State) : exec (aluForm op o) s = accumulate op o s := by
  cases op <;> rcases o with ⟨_ | _⟩ | _ <;> rfl

theorem exec_aluImmForm (op : AluOp) (v : Byte) (s : State) : exec (aluImmForm op v) s = accumulateImm op v s := by
  cases op <;> rfl

/-- In each of its three operand forms an accumulator operation leaves the ALU function's result in A and its four
flags in F, and changes nothing else but the cost. -/
theorem exec_of_accSource {op : AluOp} {i : Instr} {s : State} {v res : Byte} {cost : Nat} {z n h c : Bool}
    (hsrc : accSource op i s v cost)
    (hfn : aluFn op s.a v s.flagC = (res, { z := some z, n := some n, h := some h, c := some c })) :
    exec i s = .next { s with a := res, f := packFlags z n h c, cost := cost } := by
  have hexec : exec i s = done cost (s.accumulated op v) := by
    rcases hsrc with ⟨r, rfl, rfl, rfl⟩ | ⟨rfl, rfl, rfl⟩ | ⟨rfl, rfl⟩
    · exact exec_aluForm op (.reg r) s
    · exact exec_aluForm op .indHl s
    · exact exec_aluImmForm op v s
  rw [hexec, State.accumulated, hfn]
  rfl

/-- Settles O26: addition is addition with carry without a carry in. -/
theorem addSetsAccumulatorAndFlags : Obligations.AddSetsAccumulatorAndFlags :=
  ⟨accEncodings_all .add, fun _ s v _ hsrc => exec_of_accSource hsrc ((add8_eq_adc8 s.a v).trans (adc8_eq s.a v false))⟩

/-- Settles O27: the carry flag enters the sum and both carries. -/
theorem adcSetsAccumulatorAndFlags : Obligations.AdcSetsAccumulatorAndFlags :=
  ⟨accEncodings_all .adc, fun _ s v _ hsrc => exec_of_accSource hsrc (adc8_eq s.a v s.flagC)⟩

/-- Settles O28: the wrapped difference and its two borrows. -/
theorem subSetsAccumulatorAndFlags : Obligations.SubSetsAccumulatorAndFlags :=
  ⟨accEncodings_all .sub, fun _ s v _ hsrc => exec_of_accSource hsrc (sub8_eq s.a v)⟩

/-- Settles O29: the carry flag enters the difference and both borrows. -/
theorem sbcSetsAccumulatorAndFlags : Obligations.SbcSetsAccumulatorAndFlags :=
  ⟨accEncodings_all .sbc, fun _ s v _ hsrc => exec_of_accSource hsrc (sbc8_eq s.a v s.flagC)⟩

/-- Settles O30: the three bitwise results with their flags. -/
theorem logicSetsAccumulatorAndFlags : Obligations.LogicSetsAccumulatorAndFlags :=
  ⟨⟨accEncodings_all .and, accEncodings_all .xor, accEncodings_all .or⟩, fun _ s v _ =>
    ⟨fun hsrc => exec_of_accSource hsrc (and8_eq s.a v), fun hsrc => exec_of_accSource hsrc (xor8_eq s.a v),
      fun hsrc => exec_of_accSource hsrc (or8_eq s.a v)⟩⟩

/-- Settles O31: the result of CP is A itself, so that A is kept under the flags of the difference. -/
theorem compareSetsFlagsAndKeepsAccumulator : Obligations.CompareSetsFlagsAndKeepsAccumulator :=
  ⟨accEncodings_all .cp, fun _ s v _ hsrc => exec_of_accSource hsrc (congrArg (Prod.mk s.a) (cp8_eq s.a v))⟩

/-! ### Increment and decrement -/

theorem incForm_encodesAs (o : Opnd8) : encodesAs (incForm o) [opc (0x04 + 8 * opndNo o)] := by
  rcases o with ⟨_ | _⟩ | _ <;> exact ⟨rfl, rfl⟩

theorem decForm_encodesAs (o : Opnd8) : encodesAs (decForm o) [opc (0x05 + 8 * opndNo o)] := by
  rcases o with ⟨_ | _⟩ | _ <;> exact ⟨rfl, rfl⟩

theorem exec_incForm (o : Opnd8) (s : State) :
    exec (incForm o) s = done (if o = .indHl then 3 else 1) (s.modified o (inc8 (s.operand o))) := by
  rcases o with ⟨_ | _⟩ | _ <;> rfl

theorem exec_decForm (o : Opnd8) (s : State) :
    exec (decForm o) s = done (if o = .indHl then 3 else 1) (s.modified o (dec8 (s.operand o))) := by
  rcases o with ⟨_ | _⟩ | _ <;> rfl

/-- An operand is no flag, so the carry of before is what a function without a carry of its own leaves. -/
theorem State.modified_eq (s : State) (o : Opnd8) (res : Byte) (z n h : Bool) (c : Option Bool) :
    s.modified o (res, { z := some z, n := some n, h := some h, c := c }) =
      { s.setOperand o res with f := packFlags z n h (c.getD s.flagC) } := by
  have hc : (s.setOperand o res).flagC = s.flagC := by rw [State.flagC, State.setOperand_f, State.flagC]
  rw [State.modified, State.applyFlags, hc]
  rfl

/-- Settles O32: both functions have no carry of their own. -/
theorem incAndDecKeepCarry : Obligations.IncAndDecKeepCarry := by
  refine ⟨fun o => bytesAre_of_encodesAs (incForm_encodesAs o), fun o => bytesAre_of_encodesAs (decForm_encodesAs o),
    fun o s => ⟨?_, ?_⟩⟩
  · rw [exec_incForm, inc8_eq, State.modified_eq]
    rfl
  · rw [exec_decForm, dec8_eq, State.modified_eq]
    rfl

/-! ### Complement and carry -/

/-- Settles O33: each names the flags it writes, and the others are those of before. -/
theorem complementAndCarryInstructions : Obligations.ComplementAndCarryInstructions := by
  refine ⟨⟨bytesAre_of_encodesAs ⟨rfl, rfl⟩, bytesAre_of_encodesAs ⟨rfl, rfl⟩, bytesAre_of_encodesAs ⟨rfl, rfl⟩⟩,
    fun s => ⟨?_, rfl, rfl⟩⟩
  have hexec : exec .cpl s = done 1 (({ s with a := (cpl8 s.a).1 }).applyFlags (cpl8 s.a).2) := rfl
  rw [hexec, cpl8_eq]
  rfl

/-! ### 16-bit addition -/

theorem addHlForm_encodesAs (p : Pair) : encodesAs (addHlForm p) [opc (0x09 + 16 * pairNo p)] := by
  cases p <;> exact ⟨rfl, rfl⟩

theorem exec_addHlForm (p : Pair) (s : State) : exec (addHlForm p) s = addToHl p s := by
  cases p <;> rfl

/-- Settles O34: the sum by its number, and a write of HL keeps Z. -/
theorem addHlUsesBit11AndKeepsZero : Obligations.AddHlUsesBit11AndKeepsZero := by
  refine ⟨fun p => bytesAre_of_encodesAs (addHlForm_encodesAs p), fun p s => ?_⟩
  rw [exec_addHlForm, addToHl, add16_eq]
  rfl

/-! ### Rotates and shifts -/

/-- The answer of a rotate or shift whose result has the number `res`; each function of the extended page is one. -/
def shiftOut (res : Nat) (out : Bool) : AluOut :=
  (BitVec.ofNat 8 res, { z := some (decide (res = 0)), n := some false, h := some false, c := some out })

theorem shiftOut_of_toNat {res : Byte} {n : Nat} {out out' : Bool} (hres : res.toNat = n) (hout : out = out') :
    (res, shiftFlags res out) = shiftOut n out' := by
  subst hres hout
  have hz : (res == 0#8) = decide (res.toNat = 0) := by
    rw [Bool.eq_iff_iff, beq_iff_eq, decide_eq_true_iff, ← BitVec.toNat_inj]
    rfl
  rw [shiftFlags, hz, shiftOut, BitVec.ofNat_toNat, BitVec.setWidth_eq]

theorem rlc8_eq (v : Byte) :
    rlc8 v = shiftOut (v.toNat * 2 % 256 + v.toNat / 128) (decide (v.toNat / 128 = 1)) := by
  have hv : v.toNat < 256 := v.isLt
  have htop : (v >>> 7).toNat = v.toNat / 128 := shiftRight_toNat v 7
  refine shiftOut_of_toNat ?_ (bitOf_seven v)
  rw [shiftLeft_or_toNat v (by omega), htop]

theorem rl8_eq (v : Byte) (cin : Bool) :
    rl8 v cin = shiftOut (v.toNat * 2 % 256 + cin.toNat) (decide (v.toNat / 128 = 1)) := by
  refine shiftOut_of_toNat ?_ (bitOf_seven v)
  rw [shiftLeft_or_toNat v (by rw [bitByte_toNat]; exact cin.toNat_lt), bitByte_toNat]

theorem sla8_eq (v : Byte) : sla8 v = shiftOut (v.toNat * 2 % 256) (decide (v.toNat / 128 = 1)) :=
  shiftOut_of_toNat (shiftLeft_toNat v 1) (bitOf_seven v)

theorem swap8_eq (v : Byte) : swap8 v = shiftOut (v.toNat % 16 * 16 + v.toNat / 16) false := by
  have hv : v.toNat < 256 := v.isLt
  have hlow : (v <<< 4).toNat = v.toNat * 16 % 256 := shiftLeft_toNat v 4
  have hhigh : (v >>> 4).toNat = v.toNat / 16 := shiftRight_toNat v 4
  refine shiftOut_of_toNat ?_ rfl
  rw [or_toNat_of_lt 4 (by omega) (by omega)]
  omega

theorem rr8_eq (v : Byte) (cin : Bool) :
    rr8 v cin = shiftOut (v.toNat / 2 + cin.toNat * 128) (decide (v.toNat % 2 = 1)) := by
  have hin : (bitByte cin <<< 7).toNat = cin.toNat * 128 := bitByte_shiftLeft_toNat cin
  refine shiftOut_of_toNat ?_ (bitOf_zero v)
  rw [shiftRight_or_toNat v (by omega), hin]

/-- Rotating right is rotating through the carry, with the byte's own bit 0 as the carry (40_alu.md R129, R131). -/
theorem rrc8_eq (v : Byte) :
    rrc8 v = shiftOut (v.toNat / 2 + v.toNat % 2 * 128) (decide (v.toNat % 2 = 1)) := by
  have hrr : rrc8 v = rr8 v (bitOf v 0) := rfl
  rw [hrr, rr8_eq, toNat_bitOf_zero]

theorem sra8_eq (v : Byte) :
    sra8 v = shiftOut (v.toNat / 2 + v.toNat / 128 * 128) (decide (v.toNat % 2 = 1)) := by
  have hsign : (v &&& 0x80#8).toNat = v.toNat / 128 * 128 := and_0x80_toNat v
  refine shiftOut_of_toNat ?_ (bitOf_zero v)
  rw [shiftRight_or_toNat v (by omega), hsign]

theorem srl8_eq (v : Byte) : srl8 v = shiftOut (v.toNat / 2) (decide (v.toNat % 2 = 1)) :=
  shiftOut_of_toNat (shiftRight_toNat v 1) (bitOf_zero v)

theorem rotEncodings_all (op : RotOp) : rotEncodings op := fun o => bytesAre_of_encodesAs (rotForm_encodesAs op o)

theorem exec_rotForm (op : RotOp) (o : Opnd8) (s : State) :
    exec (rotForm op o) s =
      done (if o = .indHl then 4 else 2) (s.modified o (rotFn op (s.operand o) s.flagC)) := by
  cases op <;> rcases o with ⟨_ | _⟩ | _ <;> rfl

/-- An operation whose function answers a result and the bit shifted out leaves them, in both operand forms. -/
theorem exec_rotForm_shifted {op : RotOp} {o : Opnd8} {s : State} {res : Nat} {out : Bool}
    (hfn : rotFn op (s.operand o) s.flagC = shiftOut res out) : exec (rotForm op o) s = .next (shifted s o res out) := by
  rw [exec_rotForm, hfn]
  rfl

/-- Settles O45, by the numbers of the four functions. -/
theorem extendedLeftShiftsAndSwap : Obligations.ExtendedLeftShiftsAndSwap :=
  ⟨⟨rotEncodings_all .rlc, rotEncodings_all .rl, rotEncodings_all .sla, rotEncodings_all .swap⟩, fun _ _ =>
    ⟨exec_rotForm_shifted (rlc8_eq _), exec_rotForm_shifted (rl8_eq _ _), exec_rotForm_shifted (sla8_eq _),
      exec_rotForm_shifted (swap8_eq _)⟩⟩

/-- Settles O46, by the numbers of the four functions. -/
theorem extendedRightShifts : Obligations.ExtendedRightShifts :=
  ⟨⟨rotEncodings_all .rrc, rotEncodings_all .rr, rotEncodings_all .sra, rotEncodings_all .srl⟩, fun _ _ =>
    ⟨exec_rotForm_shifted (rrc8_eq _), exec_rotForm_shifted (rr8_eq _ _), exec_rotForm_shifted (sra8_eq _),
      exec_rotForm_shifted (srl8_eq _)⟩⟩

/-- Two rotates of A with one result and one bit shifted out, one with the flags of the accumulator rotates and one with
those of the extended page, differ in Z alone (40_alu.md R141). -/
theorem rotates_differ_in_zero {i j : Instr} {s : State} {res : Byte} {out : Bool}
    (hi : exec i s = done 1 (({ s with a := res }).applyFlags (accRotFlags out)))
    (hj : exec j s = done 2 (({ s with a := res }).applyFlags (shiftFlags res out))) :
    ∃ t u, exec i s = .next t ∧ exec j s = .next u ∧ t.a = u.a ∧ t.flagC = u.flagC ∧ t.flagZ = false ∧
      u.flagZ = decide (u.a = 0#8) :=
  ⟨_, _, hi, hj, rfl, (bitOf_packFlags_c ..).trans (bitOf_packFlags_c ..).symm, bitOf_packFlags_z ..,
    bitOf_packFlags_z ..⟩

/-- Settles O37: in each of the four pairs both functions have the same result and the same bit shifted out. -/
theorem rotateFamiliesDifferInZero : Obligations.RotateFamiliesDifferInZero := by
  intro q hq s
  simp only [List.mem_cons, List.not_mem_nil, or_false] at hq
  rcases hq with rfl | rfl | rfl | rfl <;> exact rotates_differ_in_zero rfl rfl

/-! ### Single bits -/

theorem exec_bitForm (n : BitNo) (o : Opnd8) (s : State) :
    exec (bitForm n o) s = done (if o = .indHl then 3 else 2) (s.applyFlags (bit8 n (s.operand o))) := by
  cases n <;> rcases o with ⟨_ | _⟩ | _ <;> rfl

theorem exec_resForm (n : BitNo) (o : Opnd8) (s : State) :
    exec (resForm n o) s = done (if o = .indHl then 4 else 2) (s.setOperand o (res8 n (s.operand o))) := by
  cases n <;> rcases o with ⟨_ | _⟩ | _ <;> rfl

theorem exec_setForm (n : BitNo) (o : Opnd8) (s : State) :
    exec (setForm n o) s = done (if o = .indHl then 4 else 2) (s.setOperand o (set8 n (s.operand o))) := by
  cases n <;> rcases o with ⟨_ | _⟩ | _ <;> rfl

theorem bit8_eq (n : BitNo) (v : Byte) :
    bit8 n v = { z := some (decide (v.toNat / 2 ^ n.toNat % 2 = 0)), n := some false, h := some true, c := none } := by
  have hz : (!bitOf v n.toNat) = decide (v.toNat / 2 ^ n.toNat % 2 = 0) := by
    rw [Bool.eq_iff_iff, Bool.not_eq_true', bitOf_eq_false_iff, decide_eq_true_iff]
  rw [bit8, hz]

/-- The mask of bit `i` has that bit alone. -/
theorem getLsbD_bitMask {k : Nat} (i : Nat) (hk : k < 8) : (0x01#8 <<< i).getLsbD k = decide (k = i) := by
  have hmask : (0x01#8 <<< i).getLsbD k = (decide (i < 8) && decide (i = k)) := BitVec.getLsbD_twoPow i k
  rw [hmask, Bool.eq_iff_iff, Bool.and_eq_true, decide_eq_true_iff, decide_eq_true_iff, decide_eq_true_iff]
  omega

theorem getLsbD_set8 (n : BitNo) (v : Byte) {k : Nat} (hk : k < 8) :
    (set8 n v).getLsbD k = if k = n.toNat then true else v.getLsbD k := by
  rw [set8, BitVec.getLsbD_or, getLsbD_bitMask _ hk]
  by_cases h : k = n.toNat <;> simp [h]

theorem getLsbD_res8 (n : BitNo) (v : Byte) {k : Nat} (hk : k < 8) :
    (res8 n v).getLsbD k = if k = n.toNat then false else v.getLsbD k := by
  have hones : (0xFF#8).getLsbD k = true := (BitVec.getLsbD_allOnes (v := 8)).trans (decide_eq_true hk)
  rw [res8, BitVec.getLsbD_and, BitVec.getLsbD_xor, getLsbD_bitMask _ hk, hones]
  by_cases h : k = n.toNat <;> simp [h]

/-- Settles O47: only flags are written, and the carry is not among them. -/
theorem bitTestsWriteFlagsOnly : Obligations.BitTestsWriteFlagsOnly := by
  refine ⟨fun n o => bytesAre_of_encodesAs (bitForm_encodesAs n o), fun n o s => ?_⟩
  rw [exec_bitForm, bit8_eq]
  rfl

/-- Settles O48: the bytes written are those of `res8` and `set8`. -/
theorem resAndSetWriteOneBit : Obligations.ResAndSetWriteOneBit :=
  ⟨fun n o => bytesAre_of_encodesAs (resForm_encodesAs n o), fun n o => bytesAre_of_encodesAs (setForm_encodesAs n o),
    fun n o s => ⟨res8 n (s.operand o), set8 n (s.operand o), exec_resForm n o s, exec_setForm n o s, fun _ hk =>
      ⟨getLsbD_res8 n _ hk, getLsbD_set8 n _ hk⟩⟩⟩

end Sys2Proof.Machine
end

section
/-! SUPPORT. The family of 41_load8.md: the 8-bit loads by their operand forms, and the moves of the accumulator by
their addressing modes. -/

namespace Sys2Proof.Machine

/-! ### Operand forms -/

/-- `HALT` stands in the place of `LD (HL),(HL)`; every other pair of operands is a load (30_encoding.md R100). -/
theorem exec_ldForm {d o : Opnd8} (h : ¬ (d = .indHl ∧ o = .indHl)) (s : State) :
    exec (ldForm d o) s = done (if d = .indHl ∨ o = .indHl then 2 else 1) (s.setOperand d (s.operand o)) := by
  match d, o with
  | .indHl, .indHl => exact absurd ⟨rfl, rfl⟩ h
  | .indHl, .reg q => cases q <;> rfl
  | .reg r, .indHl => cases r <;> rfl
  | .reg r, .reg q => cases r <;> cases q <;> rfl

theorem ldImmForm_encodesAs (o : Opnd8) (v : Byte) : encodesAs (ldImmForm o v) [opc (0x06 + 8 * opndNo o), v] := by
  rcases o with ⟨_ | _⟩ | _ <;> exact ⟨rfl, rfl⟩

theorem exec_ldImmForm (o : Opnd8) (v : Byte) (s : State) :
    exec (ldImmForm o v) s = done (if o = .indHl then 3 else 2) (s.setOperand o v) := by
  rcases o with ⟨_ | _⟩ | _ <;> rfl

/-- Settles O16: the source's value is written to the destination. -/
theorem loadsCopyOneByte : Obligations.LoadsCopyOneByte :=
  ⟨fun d o _ => bytesAre_of_encodesAs (ldForm_encodesAs d o), fun _ _ s => exec_ldForm (by simp) s,
    fun _ s => exec_ldForm (by simp) s, fun _ s => exec_ldForm (by simp) s⟩

/-- Settles O17: the immediate byte is written to the destination. -/
theorem loadsTakeAnImmediateByte : Obligations.LoadsTakeAnImmediateByte :=
  ⟨fun o v => bytesAre_of_encodesAs (ldImmForm_encodesAs o v), fun r v s => exec_ldImmForm (.reg r) v s,
    fun v s => exec_ldImmForm .indHl v s⟩

/-! ### Addressing modes -/

/-- An address of the page 0xFF00 by its number (41_load8.md R161 to R164). -/
theorem highPage_add (v : Byte) : highPage + v.setWidth 16 = BitVec.ofNat 16 (0xFF00 + v.toNat) := by
  have hpage : highPage = BitVec.ofNat 16 0xFF00 := rfl
  rw [hpage, BitVec.ofNat_add, BitVec.ofNat_toNat]

/-- The step of `(HL+)` by its number (41_load8.md R165, R166). -/
theorem State.afterAccess_indHlInc (s : State) :
    s.afterAccess .indHlInc = s.setHl (BitVec.ofNat 16 ((s.hl.toNat + 1) % 65536)) := by
  have hstep : s.hl + 1 = BitVec.ofNat 16 ((s.hl.toNat + 1) % 65536) := BitVec.eq_of_toNat_eq (by simp)
  rw [← hstep]
  rfl

/-- The step of `(HL-)` by its number: to subtract 1 is to add 65535 (41_load8.md R167, R168). -/
theorem State.afterAccess_indHlDec (s : State) :
    s.afterAccess .indHlDec = s.setHl (BitVec.ofNat 16 ((s.hl.toNat + 65535) % 65536)) := by
  have hstep : s.hl - 1 = BitVec.ofNat 16 ((s.hl.toNat + 65535) % 65536) :=
    BitVec.eq_of_toNat_eq (by simp [BitVec.toNat_sub, Nat.add_comm])
  rw [← hstep]
  rfl

/-- A load of the accumulator reads its mode's effective address and leaves the state after the mode's step. -/
theorem exec_of_loadAcc {i : Instr} (m : AddrMode) {s t : State} {x : Word} (hi : shapeOf i = .loadAcc m)
    (hx : s.effAddr m = x) (ht : s.afterAccess m = t) :
    exec i s = .next { t with a := s.readByte x, cost := accCost m } := by
  rw [exec_eq_run, hi, ← hx, ← ht]
  rfl

/-- A store of the accumulator writes its mode's effective address, and the mode's step follows. -/
theorem exec_of_storeAcc {i : Instr} (m : AddrMode) {s t : State} {x : Word} (hi : shapeOf i = .storeAcc m)
    (hx : s.effAddr m = x) (ht : (s.writeByte x s.a).afterAccess m = t) :
    exec i s = .next { t with cost := accCost m } := by
  rw [exec_eq_run, hi, ← ht, ← hx]
  rfl

/-- Settles O18: the encodings decode by evaluation; none of these modes steps a register. -/
theorem accumulatorMovesToAndFromMemory : Obligations.AccumulatorMovesToAndFromMemory := by
  refine ⟨⟨fun _ => rfl, fun _ => rfl, fun _ => rfl, fun _ => rfl, fun _ _ _ => rfl, fun _ _ _ => rfl, fun _ _ => rfl,
    fun _ _ => rfl, fun _ => rfl, fun _ => rfl⟩, fun s x v => ⟨?_, ?_, ?_, ?_, ?_, ?_, ?_, ?_, ?_, ?_⟩⟩
  · exact exec_of_loadAcc .indBc rfl rfl rfl
  · exact exec_of_loadAcc .indDe rfl rfl rfl
  · exact exec_of_storeAcc .indBc rfl rfl rfl
  · exact exec_of_storeAcc .indDe rfl rfl rfl
  · exact exec_of_loadAcc (.abs x) rfl rfl rfl
  · exact exec_of_storeAcc (.abs x) rfl rfl rfl
  · exact exec_of_loadAcc (.high v) rfl (highPage_add v) rfl
  · exact exec_of_storeAcc (.high v) rfl (highPage_add v) rfl
  · exact exec_of_loadAcc .highC rfl (highPage_add s.c) rfl
  · exact exec_of_storeAcc .highC rfl (highPage_add s.c) rfl

/-- Settles O19: the access is at the HL of before the mode's step. -/
theorem accumulatorMovesStepHl : Obligations.AccumulatorMovesStepHl := by
  refine ⟨⟨fun _ => rfl, fun _ => rfl, fun _ => rfl, fun _ => rfl⟩, fun s => ⟨?_, ?_, ?_, ?_⟩⟩
  · exact exec_of_storeAcc .indHlInc rfl rfl (s.writeByte s.hl s.a).afterAccess_indHlInc
  · exact exec_of_loadAcc .indHlInc rfl rfl s.afterAccess_indHlInc
  · exact exec_of_storeAcc .indHlDec rfl rfl (s.writeByte s.hl s.a).afterAccess_indHlDec
  · exact exec_of_loadAcc .indHlDec rfl rfl s.afterAccess_indHlDec

end Sys2Proof.Machine
end

section
/-! SUPPORT. The family of 42_load16_stack.md: the loads of a pair and of SP, SP with a displacement, and the pushes and
pops by what they leave in the registers and in memory. -/

namespace Sys2Proof.Machine

/-! ### Words and numbers -/

/-- A sum of a word and a number by its number (00_scope.md R7). -/
theorem word_add_ofNat (x : Word) (n : Nat) : x + BitVec.ofNat 16 n = BitVec.ofNat 16 ((x.toNat + n) % 65536) :=
  BitVec.eq_of_toNat_eq (by simp)

/-- To subtract 2 modulo 65536 is to add 65534. -/
theorem word_sub_two (x : Word) : x - 2 = BitVec.ofNat 16 ((x.toNat + 65534) % 65536) := by
  have hneg : x - 2 = x + BitVec.ofNat 16 65534 := BitVec.sub_eq_add_neg x 2
  rw [hneg, word_add_ofNat]

/-- A signed displacement is added as a number (40_alu.md R140). -/
theorem word_add_sext (x : Word) (e : Byte) : x + sext e = BitVec.ofInt 16 (x.toNat + e.toInt) := by
  rw [BitVec.ofInt_add, BitVec.ofInt_natCast, BitVec.ofNat_toNat, BitVec.setWidth_eq, sext_eq_ofInt]

/-- The mask that AF's low byte is loaded through drops bits 3:0 (10_state.md R21). -/
theorem and_0xF0_eq_ofNat (v : Byte) : v &&& 0xF0#8 = BitVec.ofNat 8 (v.toNat / 16 * 16) := by
  revert v
  decide

theorem addsp_eq (sp : Word) (e : Byte) :
    addsp sp e = (BitVec.ofInt 16 (sp.toNat + e.toInt),
      { z := some false, n := some false, h := some (decide (sp.toNat % 16 + e.toNat % 16 > 15)),
        c := some (decide (sp.toNat % 256 + e.toNat > 255)) }) := by
  have hnibble : (sp &&& 0xF#16).toNat = sp.toNat % 16 := Nat.and_two_pow_sub_one_eq_mod sp.toNat 4
  have hbyte : (sp &&& 0xFF#16).toNat = sp.toNat % 256 := Nat.and_two_pow_sub_one_eq_mod sp.toNat 8
  simp only [addsp, word_add_sext, hnibble, hbyte, low4_eq_mod]

/-! ### A pair loaded with two bytes -/

theorem State.setBc_wordOf (s : State) (hi lo : Byte) : s.setBc (wordOf hi lo) = { s with b := hi, c := lo } := by
  rw [State.setBc, highByte_wordOf, lowByte_wordOf]

theorem State.setDe_wordOf (s : State) (hi lo : Byte) : s.setDe (wordOf hi lo) = { s with d := hi, e := lo } := by
  rw [State.setDe, highByte_wordOf, lowByte_wordOf]

theorem State.setHl_wordOf (s : State) (hi lo : Byte) : s.setHl (wordOf hi lo) = { s with h := hi, l := lo } := by
  rw [State.setHl, highByte_wordOf, lowByte_wordOf]

theorem State.setAf_wordOf (s : State) (hi lo : Byte) :
    s.setAf (wordOf hi lo) = { s with a := hi, f := BitVec.ofNat 8 (lo.toNat / 16 * 16) } := by
  rw [State.setAf, highByte_wordOf, lowByte_wordOf, and_0xF0_eq_ofNat]

/-! ### Loads of a pair and of SP -/

/-- `00pp0001` and the immediate word, low byte first (30_encoding.md R93, R97, R100). -/
theorem ldPairForm_bytesAre (p : Pair) (lo hi : Byte) :
    bytesAre [opc (0x01 + 16 * pairNo p), lo, hi] (ldPairForm p (wordOf hi lo)) := by
  cases p <;> exact fun _ => rfl

theorem exec_ldPairForm (p : Pair) (v : Word) (s : State) : exec (ldPairForm p v) s = loadPair p v s := by
  cases p <;> rfl

/-- Settles O20: the bytes of a pair's new value are the immediate's two bytes. -/
theorem pairsAndSpAreLoaded : Obligations.PairsAndSpAreLoaded := by
  refine ⟨ldPairForm_bytesAre, bytesAre_of_encodesAs ⟨rfl, rfl⟩, fun hi lo s => ?_, fun hi lo s => ?_,
    fun hi lo s => ?_, fun v s => exec_ldPairForm .sp v s, fun _ => rfl⟩
  · exact (exec_ldPairForm .bc _ s).trans (congrArg (done 3) (s.setBc_wordOf hi lo))
  · exact (exec_ldPairForm .de _ s).trans (congrArg (done 3) (s.setDe_wordOf hi lo))
  · exact (exec_ldPairForm .hl _ s).trans (congrArg (done 3) (s.setHl_wordOf hi lo))

/-- The two stores of a word by their numbers (20_memory.md R63, R64). -/
theorem State.writeWord_eq (s : State) (x v : Word) :
    s.writeWord x v = (s.writeByte x (BitVec.ofNat 8 (v.toNat % 256))).writeByte
      (BitVec.ofNat 16 ((x.toNat + 1) % 65536)) (BitVec.ofNat 8 (v.toNat / 256)) := by
  rw [← lowByte_eq_ofNat, ← highByte_eq_ofNat, ← word_add_ofNat]
  rfl

/-- Settles O21: the word stored is SP. -/
theorem spIsStoredLittleEndian : Obligations.SpIsStoredLittleEndian := by
  refine ⟨fun _ _ _ => rfl, fun s x => ?_⟩
  rw [← State.writeWord_eq]
  rfl

/-! ### SP with a displacement -/

/-- Settles O22: both forms take the result and the flags of one function. -/
theorem spPlusDisplacement : Obligations.SpPlusDisplacement := by
  refine ⟨fun _ => bytesAre_of_encodesAs ⟨rfl, rfl⟩, fun _ => bytesAre_of_encodesAs ⟨rfl, rfl⟩, fun s e => ⟨?_, ?_⟩⟩
  · have hexec : exec (.ldHlSpE8 e) s = done 3 ((s.setHl (addsp s.sp e).1).applyFlags (addsp s.sp e).2) := rfl
    rw [hexec, addsp_eq]
    rfl
  · have hexec : exec (.addSpE8 e) s = done 4 (({ s with sp := (addsp s.sp e).1 }).applyFlags (addsp s.sp e).2) := rfl
    rw [hexec, addsp_eq]
    rfl

/-! ### Pushes and pops -/

theorem pushForm_encodesAs (p : StackPair) : encodesAs (pushForm p) [opc (0xC5 + 16 * stackPairNo p)] := by
  cases p <;> exact ⟨rfl, rfl⟩

theorem popForm_encodesAs (p : StackPair) : encodesAs (popForm p) [opc (0xC1 + 16 * stackPairNo p)] := by
  cases p <;> exact ⟨rfl, rfl⟩

/-- Settles O23: SP by its number, and the bytes and the frame of `Push16`. -/
theorem pushStoresThePairBelowSp : Obligations.PushStoresThePairBelowSp := by
  refine ⟨fun p => bytesAre_of_encodesAs (pushForm_encodesAs p), fun p s hm => ?_⟩
  have hlow := congrArg BitVec.toNat (readByte_push16_low hm (s.stackPair p))
  have hhigh := congrArg BitVec.toNat (readByte_push16_high hm (s.stackPair p))
  rw [lowByte_toNat] at hlow
  rw [highByte_toNat] at hhigh
  exact ⟨{ s.push16 (s.stackPair p) with cost := 4 }, exec_pushForm p s, word_sub_two s.sp, hlow, hhigh,
    push16_memKeptBut s (s.stackPair p), rfl⟩

/-- `Pop16` by its two bytes and the number of the new SP (20_memory.md R68). -/
theorem exec_popForm_eq (p : StackPair) (s : State) :
    exec (popForm p) s = done 3 ({ s with sp := BitVec.ofNat 16 ((s.sp.toNat + 2) % 65536) }.setStackPair p
      (wordOf (s.readByte (s.sp + 1)) (s.readByte s.sp))) := by
  rw [exec_popForm, ← word_add_ofNat]
  rfl

/-- Settles O24: the pair is loaded with the two bytes at SP. -/
theorem popLoadsThePairAtSp : Obligations.PopLoadsThePairAtSp := by
  refine ⟨fun p => bytesAre_of_encodesAs (popForm_encodesAs p), fun s => ⟨?_, ?_, ?_, ?_⟩⟩
  · exact (exec_popForm_eq .bc s).trans (congrArg (done 3) (State.setBc_wordOf _ _ _))
  · exact (exec_popForm_eq .de s).trans (congrArg (done 3) (State.setDe_wordOf _ _ _))
  · exact (exec_popForm_eq .hl s).trans (congrArg (done 3) (State.setHl_wordOf _ _ _))
  · exact (exec_popForm_eq .af s).trans (congrArg (done 3) (State.setAf_wordOf _ _ _))

end Sys2Proof.Machine
end

section
/-! SUPPORT. The family of 43_arith8.md: the rows without a table entry, by their opcode byte. -/

namespace Sys2Proof.Machine

/-! ### Rows without a table entry -/

/-- A row without an entry is its opcode byte alone (30_encoding.md R102). -/
theorem encodesAs_of_noEntryByte {i : Instr} {op : Byte} (h : i.noEntryByte = some op) : encodesAs i [op] := by
  unfold Instr.noEntryByte at h
  split at h <;> cases h <;> exact ⟨rfl, rfl⟩

theorem shapeOf_of_noEntryByte {i : Instr} {op : Byte} (h : i.noEntryByte = some op) : shapeOf i = .noEntry op := by
  unfold Instr.noEntryByte at h
  split at h <;> cases h <;> rfl

/-- The byte was fetched from just before PC (60_exceptions.md R315). -/
theorem exec_of_noEntryByte {i : Instr} {op : Byte} (h : i.noEntryByte = some op) (s : State) :
    exec i s = .fault (.unknownPrimaryOpcode (s.pc - 1) op) := by
  rw [exec_eq_run, shapeOf_of_noEntryByte h]
  rfl

/-- Settles O5: each of the fourteen rows is listed with the byte that has no entry. -/
theorem rowsWithoutEntryAreFatal : Obligations.RowsWithoutEntryAreFatal := by
  intro p hp
  have hbyte : p.1.noEntryByte = some p.2 := by
    revert p
    decide
  exact ⟨bytesAre_of_encodesAs (encodesAs_of_noEntryByte hbyte), exec_of_noEntryByte hbyte⟩

end Sys2Proof.Machine
end

section
/-! SUPPORT. The family of 44_arith16.md: a pair or SP raised or lowered by 1, by its number. -/

namespace Sys2Proof.Machine

/-! ### Increment and decrement of a pair -/

theorem incPairForm_encodesAs (p : Pair) : encodesAs (incPairForm p) [opc (0x03 + 16 * pairNo p)] := by
  cases p <;> exact ⟨rfl, rfl⟩

theorem decPairForm_encodesAs (p : Pair) : encodesAs (decPairForm p) [opc (0x0B + 16 * pairNo p)] := by
  cases p <;> exact ⟨rfl, rfl⟩

theorem exec_incPairForm (p : Pair) (s : State) : exec (incPairForm p) s = incrementPair p s := by
  cases p <;> rfl

theorem exec_decPairForm (p : Pair) (s : State) : exec (decPairForm p) s = decrementPair p s := by
  cases p <;> rfl

/-- To subtract 1 modulo 65536 is to add 65535. -/
theorem word_sub_one (x : Word) : x - 1 = BitVec.ofNat 16 ((x.toNat + 65535) % 65536) := by
  have hneg : x - 1 = x + BitVec.ofNat 16 65535 := BitVec.sub_eq_add_neg x 1
  rw [hneg, word_add_ofNat]

/-- Settles O35: the pair's new value by its number; the write of a pair is the whole effect, F among what it keeps. -/
theorem incAndDecPairTouchNoFlag : Obligations.IncAndDecPairTouchNoFlag := by
  refine ⟨fun p => bytesAre_of_encodesAs (incPairForm_encodesAs p), fun p =>
    bytesAre_of_encodesAs (decPairForm_encodesAs p), fun p s => ⟨?_, ?_⟩⟩
  · rw [exec_incPairForm, ← word_add_ofNat]
    rfl
  · rw [exec_decPairForm, ← word_sub_one]
    rfl

end Sys2Proof.Machine
end

section
/-! SUPPORT. The family of 45_rotate_acc.md: the accumulator rotates, by the numbers of the extended page's rotates. -/

namespace Sys2Proof.Machine

/-! ### Accumulator rotates by their numbers -/

/-- A rotate of A has the result and the carry of the extended page's rotate, without its Z (40_alu.md R141). -/
theorem accRotFlags_of_shiftOut {res : Byte} {n : Nat} {out out' : Bool}
    (h : (res, shiftFlags res out) = shiftOut n out') :
    (res, accRotFlags out) = (BitVec.ofNat 8 n, accRotFlags out') := by
  obtain ⟨hres, hflags⟩ := Prod.mk.inj h
  have hout : out = out' := Option.some.inj (congrArg FlagRec.c hflags)
  rw [hres, hout]

theorem rlca_eq (a : Byte) :
    rlca a = (BitVec.ofNat 8 (a.toNat * 2 % 256 + a.toNat / 128), accRotFlags (decide (a.toNat / 128 = 1))) :=
  accRotFlags_of_shiftOut (rlc8_eq a)

theorem rrca_eq (a : Byte) :
    rrca a = (BitVec.ofNat 8 (a.toNat / 2 + a.toNat % 2 * 128), accRotFlags (decide (a.toNat % 2 = 1))) :=
  accRotFlags_of_shiftOut (rrc8_eq a)

theorem rla_eq (a : Byte) (cin : Bool) :
    rla a cin = (BitVec.ofNat 8 (a.toNat * 2 % 256 + cin.toNat), accRotFlags (decide (a.toNat / 128 = 1))) :=
  accRotFlags_of_shiftOut (rl8_eq a cin)

theorem rra_eq (a : Byte) (cin : Bool) :
    rra a cin = (BitVec.ofNat 8 (a.toNat / 2 + cin.toNat * 128), accRotFlags (decide (a.toNat % 2 = 1))) :=
  accRotFlags_of_shiftOut (rr8_eq a cin)

theorem exec_accRotForm (op : AccRot) (s : State) : exec (accRotForm op) s = rotateAcc op s := by
  cases op <;> rfl

/-- All four flags are named, so none of before is left. -/
theorem exec_accRotForm_rotated {op : AccRot} {s : State} {res : Byte} {out : Bool}
    (hfn : accRotFn op s.a s.flagC = (res, accRotFlags out)) :
    exec (accRotForm op) s = .next { s with a := res, f := packFlags false false false out, cost := 1 } := by
  rw [exec_accRotForm, rotateAcc, hfn]
  rfl

/-- Settles O36, by the numbers of the four functions. -/
theorem accumulatorRotatesClearZero : Obligations.AccumulatorRotatesClearZero :=
  ⟨⟨bytesAre_of_encodesAs ⟨rfl, rfl⟩, bytesAre_of_encodesAs ⟨rfl, rfl⟩, bytesAre_of_encodesAs ⟨rfl, rfl⟩,
      bytesAre_of_encodesAs ⟨rfl, rfl⟩⟩, fun s =>
    ⟨exec_accRotForm_rotated (op := .rlca) (rlca_eq s.a), exec_accRotForm_rotated (op := .rrca) (rrca_eq s.a),
      exec_accRotForm_rotated (op := .rla) (rla_eq s.a s.flagC),
      exec_accRotForm_rotated (op := .rra) (rra_eq s.a s.flagC)⟩⟩

end Sys2Proof.Machine
end

section
/-! SUPPORT. The family of 46_control.md: jumps, calls and returns by the PC and the stack they leave, and the return that
undoes a call. -/

namespace Sys2Proof.Machine

/-! ### The conditional forms and `RST` as shared operations -/

theorem exec_jpForm (cc : Cond) (x : Word) (s : State) : exec (jpForm cc x) s = jumpIf cc x s := by
  cases cc <;> rfl

theorem exec_jrForm (cc : Cond) (e : Byte) (s : State) : exec (jrForm cc e) s = jumpRelativeIf cc e s := by
  cases cc <;> rfl

theorem exec_callForm (cc : Cond) (x : Word) (s : State) : exec (callForm cc x) s = callIf cc x s := by
  cases cc <;> rfl

theorem exec_retForm (cc : Cond) (s : State) : exec (retForm cc) s = retIf cc s := by
  cases cc <;> rfl

theorem exec_rstForm (n : BitNo) (s : State) : exec (rstForm n) s = restart n s := by
  cases n <;> rfl

/-! ### Encodings -/

/-- `110cc010` and the target, low byte first (30_encoding.md R94, R97, R100). -/
theorem jpForm_bytesAre (cc : Cond) (lo hi : Byte) :
    bytesAre [opc (0xC2 + 8 * condNo cc), lo, hi] (jpForm cc (wordOf hi lo)) := by
  cases cc <;> exact fun _ => rfl

/-- `110cc100` and the target, low byte first (30_encoding.md R94, R97, R100). -/
theorem callForm_bytesAre (cc : Cond) (lo hi : Byte) :
    bytesAre [opc (0xC4 + 8 * condNo cc), lo, hi] (callForm cc (wordOf hi lo)) := by
  cases cc <;> exact fun _ => rfl

theorem jrForm_encodesAs (cc : Cond) (e : Byte) : encodesAs (jrForm cc e) [opc (0x20 + 8 * condNo cc), e] := by
  cases cc <;> exact ⟨rfl, rfl⟩

theorem retForm_encodesAs (cc : Cond) : encodesAs (retForm cc) [opc (0xC0 + 8 * condNo cc)] := by
  cases cc <;> exact ⟨rfl, rfl⟩

theorem rstForm_encodesAs (n : BitNo) : encodesAs (rstForm n) [opc (0xC7 + 8 * n.toNat)] := by
  cases n <;> exact ⟨rfl, rfl⟩

/-! ### Jumps -/

/-- Settles O39: the displacement is added as a signed number. -/
theorem relativeJumps : Obligations.RelativeJumps := by
  refine ⟨⟨fun _ => bytesAre_of_encodesAs ⟨rfl, rfl⟩, fun cc e => bytesAre_of_encodesAs (jrForm_encodesAs cc e)⟩,
    fun s cc e => ?_⟩
  rw [← word_add_sext, exec_jrForm]
  exact ⟨rfl, fun taken => if_pos taken, fun notTaken => if_neg (Bool.eq_false_iff.mp notTaken)⟩

/-- Settles O38: the target is the operand, or HL. -/
theorem absoluteJumps : Obligations.AbsoluteJumps := by
  refine ⟨⟨fun _ _ _ => rfl, jpForm_bytesAre, bytesAre_of_encodesAs ⟨rfl, rfl⟩⟩, fun s cc x => ?_⟩
  rw [exec_jpForm]
  exact ⟨rfl, fun taken => if_pos taken, fun notTaken => if_neg (Bool.eq_false_iff.mp notTaken), rfl⟩

/-! ### Calls and returns -/

/-- Settles O40: every taken form is `Push16(pc)` and a jump (`State.called`), `RST` to `ttt * 8`. -/
theorem callsAndRestartsPushPc : Obligations.CallsAndRestartsPushPc := by
  refine ⟨⟨fun _ _ _ => rfl, callForm_bytesAre, fun n => bytesAre_of_encodesAs (rstForm_encodesAs n)⟩,
    fun s cc x n => ?_⟩
  rw [exec_callForm, exec_rstForm, Nat.mul_comm]
  exact ⟨rfl, fun taken => if_pos taken, fun notTaken => if_neg (Bool.eq_false_iff.mp notTaken), rfl⟩

/-- Settles O41: every taken form is `pc <- Pop16()` (`State.returned`), and RETI arms the slot after it. -/
theorem returnsPopPc : Obligations.ReturnsPopPc := by
  refine ⟨⟨bytesAre_of_encodesAs ⟨rfl, rfl⟩, fun cc => bytesAre_of_encodesAs (retForm_encodesAs cc),
    bytesAre_of_encodesAs ⟨rfl, rfl⟩⟩, fun s cc => ?_⟩
  rw [exec_retForm]
  exact ⟨rfl, fun taken => if_pos taken, fun notTaken => if_neg (Bool.eq_false_iff.mp notTaken), rfl⟩

/-- `CALL a16` and `RST t` push PC and jump, each to its target and at its cost. -/
theorem exec_call_or_rst {i : Instr} (hi : (∃ x, i = .callA16 x) ∨ ∃ n, i = rstForm n) (s : State) :
    ∃ x k, exec i s = done k (s.called x) := by
  rcases hi with ⟨x, rfl⟩ | ⟨n, rfl⟩
  · exact ⟨x, Cost.call, rfl⟩
  · exact ⟨restartTarget n, Cost.rst, exec_rstForm n s⟩

/-- The word popped is the PC that was pushed, and SP falls by 2 and rises by 2 (20_memory.md R67, R68). -/
theorem State.returned_called {s : State} (hm : s.memCanonical) (x : Word) :
    (s.called x).returned = { s with mem := (s.called x).mem } := by
  have hpop : (s.called x).popValue = s.pc := popValue_push16 hm s.pc
  have hsp : (s.called x).sp + 2 = s.sp := BitVec.sub_add_cancel s.sp 2
  rw [State.returned, State.popState, hpop, hsp]
  rfl

/-- Settles O42: what the call leaves returns to the state of before but for memory, and RET sets the cost anew. -/
theorem returnUndoesCall : Obligations.ReturnUndoesCall := by
  intro i s t hm hi h
  obtain ⟨x, k, hcall⟩ := exec_call_or_rst hi s
  obtain rfl := Host.Outcome.next.inj (hcall.symm.trans h)
  exact congrArg (done Cost.ret) (State.returned_called hm x)

end Sys2Proof.Machine
end

section
/-! SUPPORT. The family of 47_system.md: the prefix as the entry of the extended table that its second byte selects, and
the instructions that arm the slot. -/

namespace Sys2Proof.Machine

/-! ### The entries of the extended table as shared operations -/

theorem exec_rotForm_eq_rotate (op : RotOp) (o : Opnd8) (s : State) : exec (rotForm op o) s = rotate op o s := by
  rw [exec_rotForm]
  cases o <;> rfl

theorem exec_bitForm_eq_testBit (n : BitNo) (o : Opnd8) (s : State) : exec (bitForm n o) s = testBit n o s := by
  rw [exec_bitForm]
  cases o <;> rfl

theorem exec_resForm_eq_resetBit (n : BitNo) (o : Opnd8) (s : State) : exec (resForm n o) s = resetBit n o s := by
  rw [exec_resForm]
  cases o <;> rfl

theorem exec_setForm_eq_setBit (n : BitNo) (o : Opnd8) (s : State) : exec (setForm n o) s = setBit n o s := by
  rw [exec_setForm]
  cases o <;> rfl

/-- The four groups of the extended table are the four operations that the prefix selects from (30_encoding.md R96). -/
theorem exec_extended (op2 : Byte) (s : State) : exec (extended op2) s = extendedOp op2 s := by
  unfold extended extendedOp
  generalize fieldX op2 = x
  match x with
  | 0 => exact exec_rotForm_eq_rotate ..
  | 1 => exact exec_bitForm_eq_testBit ..
  | 2 => exact exec_resForm_eq_resetBit ..
  | _ + 3 => exact exec_setForm_eq_setBit ..

/-- Every byte has an entry in the extended table (30_encoding.md R101), and no entry faults. -/
theorem exec_extended_completes (op2 : Byte) (s : State) : ∃ t, exec (extended op2) s = .next t := by
  unfold extended
  generalize fieldX op2 = x
  match x with
  | 0 => exact ⟨_, exec_rotForm ..⟩
  | 1 => exact ⟨_, exec_bitForm ..⟩
  | 2 => exact ⟨_, exec_resForm ..⟩
  | _ + 3 => exact ⟨_, exec_setForm ..⟩

/-! ### The prefix -/

theorem exec_prefixCb (op2 : Byte) (s : State) : exec (.prefixCb op2) s = extendedOp op2 s :=
  exec_eq_run (.prefixCb op2) s

/-- Settles O44: the prefix and the table's entry are one operation, and the entry completes. -/
theorem prefixRunsTheExtendedTable : Obligations.PrefixRunsTheExtendedTable := by
  refine ⟨fun op2 => bytesAre_of_encodesAs (extended_encodesAs op2), fun op2 s => ?_⟩
  have hentry : exec (.prefixCb op2) s = exec (extended op2) s := (exec_prefixCb op2 s).trans (exec_extended op2 s).symm
  exact ⟨hentry, hentry ▸ exec_extended_completes op2 s⟩

/-! ### `NOP`, `DI` and `EI` -/

theorem exec_nop (s : State) : exec .nop s = .next { s with cost := 1 } := exec_eq_run .nop s

/-- `DI` and `EI` write the slot without reading it, so an older arming is replaced (47_system.md R271, R272). -/
theorem exec_di (s : State) : exec .di s = .next { s with imep := .armed false .two, cost := 1 } := exec_eq_run .di s

theorem exec_ei (s : State) : exec .ei s = .next { s with imep := .armed true .two, cost := 1 } := exec_eq_run .ei s

/-- Settles O43: `DI` and `EI` differ in the value they arm, and neither writes IME. -/
theorem nopDiEi : Obligations.NopDiEi :=
  ⟨⟨bytesAre_of_encodesAs ⟨rfl, rfl⟩, bytesAre_of_encodesAs ⟨rfl, rfl⟩, bytesAre_of_encodesAs ⟨rfl, rfl⟩⟩, fun s =>
    ⟨exec_nop s, exec_di s, exec_ei s⟩⟩

end Sys2Proof.Machine
end

section
/-! SUPPORT. The family of 60_exceptions.md: what a tick that executes runs, the interrupt check, the IME delay, and the
display timing unit. -/

namespace Sys2Proof.Machine

/-! ### Every entry completes -/

/-- The answer is a next state with a cost that the cost table can hold (60_exceptions.md R324, 70_reset_and_hazards.md
R362). -/
def completes (r : Result) : Prop := ∃ t, r = .next t ∧ 1 ≤ t.cost ∧ t.cost ≤ 6

theorem done_completes {n : Nat} (h : 1 ≤ n ∧ n ≤ 6) (s : State) : completes (done n s) := ⟨_, rfl, h⟩

theorem ite_completes {b : Bool} {r r' : Result} (h : completes r) (h' : completes r') :
    completes (if b then r else r') := by
  cases b
  · exact h'
  · exact h

theorem accCost_bounds (m : AddrMode) : 1 ≤ accCost m ∧ accCost m ≤ 6 := by
  cases m <;> simp [accCost, Cost.ldAccInd, Cost.ldAccAbs, Cost.ldHigh, Cost.ldHighC]

theorem extendedOp_completes (op2 : Byte) (s : State) : completes (extendedOp op2 s) := by
  unfold extendedOp
  generalize opndField (fieldZ op2) = o, fieldX op2 = x
  rcases x with _ | _ | _ | x <;> cases o <;> exact done_completes (by decide) _

/-- The shapes with a table entry (30_encoding.md R102). -/
def Shape.hasEntry : Shape → Bool
  | .noEntry _ => false
  | _ => true

theorem shapeOf_hasEntry {i : Instr} (h : i.noEntryByte = none) : (shapeOf i).hasEntry = true := by
  cases i
  case stop | daa | halt | unassignedD3 | unassignedDB | unassignedDD | unassignedE3 | unassignedE4 | unassignedEB |
      unassignedEC | unassignedED | unassignedF4 | unassignedFC | unassignedFD =>
    cases h
  all_goals rfl

theorem Shape.run_completes {sh : Shape} (h : sh.hasEntry = true) (s : State) : completes (sh.run s) := by
  cases sh
  case noEntry => cases h
  case load d o => cases d <;> cases o <;> exact done_completes (by decide) _
  case loadImm o _ | increment o | decrement o | accumulate _ o | rotate _ o | testBit _ o | resetBit _ o |
      setBit _ o =>
    cases o <;> exact done_completes (by decide) _
  case loadAcc m | storeAcc m => exact done_completes (accCost_bounds m) _
  case jumpIf | jumpRelativeIf | callIf | retIf =>
    exact ite_completes (done_completes (by decide) _) (done_completes (by decide) _)
  case extendedOp => exact extendedOp_completes ..
  all_goals exact done_completes (by decide) _

/-- Settles O4: every shape with an entry ends by `done` with a cost of the table. -/
theorem everyEntryCompletes : Obligations.EveryEntryCompletes := by
  intro i s h
  rw [exec_eq_run]
  exact Shape.run_completes (shapeOf_hasEntry h) s

/-! ### The instruction a tick runs -/

theorem exists_decodesAt (s : State) : ∃ i, s.decodesAt i := by
  unfold State.decodesAt State.codeBytes decode
  split
  case h_1 h => cases h
  case h_2 h =>
    cases h
    split <;> exact ⟨_, _, rfl⟩

theorem length_of_decode {bs rest : List Byte} {i : Instr} (h : decode bs = .ok (i, rest)) :
    i.length + rest.length = bs.length := by
  obtain ⟨rfl, -⟩ := encodeUndoesDecode _ _ _ h
  exact List.length_append.symm

theorem State.fetchState8_fetchState8 (s : State) : s.fetchState8.fetchState8 = { s with pc := s.pc + 2 } :=
  congrArg (fun p => { s with pc := p }) (BitVec.add_assoc s.pc 1 1)

theorem State.fetchState16_fetchState8 (s : State) : s.fetchState8.fetchState16 = { s with pc := s.pc + 3 } :=
  congrArg (fun p => { s with pc := p })
    ((congrArg (· + 1) (BitVec.add_assoc s.pc 1 1)).trans (BitVec.add_assoc s.pc 2 1))

theorem State.fetchValue16_fetchState8 (s : State) :
    s.fetchState8.fetchValue16 = wordOf (s.readByte (s.pc + 2)) (s.readByte (s.pc + 1)) := by
  rw [State.fetchValue16, State.fetchState8_fetchState8]
  rfl

/-- Fetching the operand bytes one after another reads what the decoder reads, and leaves PC past them (30_encoding.md
R97, R99). -/
theorem executeOne_of_decodesAt {s : State} {i : Instr} (h : s.decodesAt i) :
    executeOne s = exec i { s with pc := s.pc + BitVec.ofNat 16 i.length } := by
  obtain ⟨rest, hd⟩ := h
  have hlen := length_of_decode hd
  rw [executeOne, State.fetchValue8]
  cases hp : primary (s.readByte s.pc) <;> simp only [State.codeBytes, decode, hp] at hd <;> cases hd
  case whole =>
    rw [show Instr.length _ = 1 from Nat.add_right_cancel hlen]
    rfl
  case byte | ext =>
    rw [show Instr.length _ = 2 from Nat.add_right_cancel hlen, State.fetchState8_fetchState8]
    rfl
  case word =>
    rw [show Instr.length _ = 3 from Nat.add_right_cancel hlen]
    simp only [State.fetchState16_fetchState8, State.fetchValue16_fetchState8]
    rfl

/-! ### The tick -/

/-- The interrupt check of a tick that executes does not pass (60_exceptions.md R311). -/
theorem checkPasses_of_executes {s : State} (h : s.executes) : s.checkPasses = false := by
  obtain ⟨-, hime | hpending⟩ := h
  · rw [State.checkPasses, hime, Bool.false_and]
  · have hm : s.pendingEnabled = 0#8 := hpending
    rw [State.checkPasses, hm, bne_self_eq_false, Bool.and_false]

theorem step_of_fatal {s : State} {f : Fault} (h : s.fatal = some f) : step s = .fault f := by
  rw [step, tick, h]

theorem step_of_no_fatal {s : State} (h : s.fatal = none) : step s = finishTick (cpuStep s) := by
  rw [step, tick, h]

/-- A tick that executes runs the decoded instruction on this state: the IME delay is advanced, and PC is past the
instruction's bytes (60_exceptions.md R314, R315). -/
def State.fetched (s : State) (i : Instr) : State :=
  { s.advanceImeDelay with pc := s.pc + BitVec.ofNat 16 i.length }

theorem advanceImeDelay_decodesAt {s : State} {i : Instr} (h : s.decodesAt i) : s.advanceImeDelay.decodesAt i := by
  simpa [State.decodesAt, State.codeBytes, State.readByte] using h

theorem cpuStep_of_executes {s : State} {i : Instr} (he : s.executes) (hd : s.decodesAt i) :
    cpuStep s = exec i (s.fetched i) := by
  rw [cpuStep, if_neg (Bool.eq_false_iff.mp (checkPasses_of_executes he)),
    executeOne_of_decodesAt (advanceImeDelay_decodesAt hd), State.advanceImeDelay_pc]
  rfl

theorem step_of_executes {s : State} {i : Instr} (he : s.executes) (hd : s.decodesAt i) :
    step s = finishTick (exec i (s.fetched i)) := by
  rw [step_of_no_fatal he.1, cpuStep_of_executes he hd]

/-- Settles O49: the tick ends as the instruction does, with the DTU tick after a next state. -/
theorem stepRunsTheDecodedInstruction : Obligations.StepRunsTheDecodedInstruction := by
  intro s i he hd
  rw [step_of_executes he hd]
  exact ⟨fun t ht => congrArg finishTick ht, fun f hf => congrArg finishTick hf⟩

/-! ### Bytes without an entry -/

theorem mem_bytesWithoutEntry_iff (b : Byte) : b ∈ bytesWithoutEntry ↔ ∃ i : Instr, i.noEntryByte = some b := by
  constructor
  · intro h
    have hrows : bytesWithoutEntry.map some =
        [Instr.stop, .daa, .halt, .unassignedD3, .unassignedDB, .unassignedDD, .unassignedE3, .unassignedE4,
          .unassignedEB, .unassignedEC, .unassignedED, .unassignedF4, .unassignedFC, .unassignedFD].map
          Instr.noEntryByte := rfl
    have hb := List.mem_map_of_mem (f := some) h
    rw [hrows, List.mem_map] at hb
    obtain ⟨i, -, hi⟩ := hb
    exact ⟨i, hi⟩
  · rintro ⟨i, hi⟩
    unfold Instr.noEntryByte at hi
    split at hi <;> cases hi <;> decide

theorem noEntryByte_of_mem {s : State} {i : Instr} (hd : s.decodesAt i) (h : s.readByte s.pc ∈ bytesWithoutEntry) :
    i.noEntryByte = some (s.readByte s.pc) := by
  obtain ⟨rest, hd⟩ := hd
  obtain ⟨j, hj⟩ := (mem_bytesWithoutEntry_iff _).mp h
  have hdj := bytesAre_of_encodesAs (encodesAs_of_noEntryByte hj) [s.readByte (s.pc + 1), s.readByte (s.pc + 2)]
  cases hd.symm.trans hdj
  exact hj

theorem noEntryByte_of_not_mem {s : State} {i : Instr} (hd : s.decodesAt i)
    (h : s.readByte s.pc ∉ bytesWithoutEntry) : i.noEntryByte = none := by
  obtain ⟨rest, hd⟩ := hd
  obtain ⟨hencode, -⟩ := encodeUndoesDecode _ _ _ hd
  rw [Option.eq_none_iff_forall_ne_some]
  intro op hop
  rw [(encodesAs_of_noEntryByte hop).1] at hencode
  obtain rfl : op = s.readByte s.pc := (List.cons.inj hencode).1
  exact h ((mem_bytesWithoutEntry_iff _).mpr ⟨i, hop⟩)

/-- The byte of a row without an entry was fetched from PC (60_exceptions.md R315). -/
theorem exec_fetched_of_noEntryByte {s : State} {i : Instr} {op : Byte} (h : i.noEntryByte = some op) :
    exec i (s.fetched i) = .fault (.unknownPrimaryOpcode s.pc op) := by
  have hlen : i.length = 1 := congrArg List.length (encodesAs_of_noEntryByte h).1
  have hpc : (s.fetched i).pc - 1 = s.pc := by
    rw [State.fetched, hlen]
    exact BitVec.add_sub_cancel s.pc 1
  rw [exec_of_noEntryByte h, hpc]

/-- Settles O6: the bytes at PC decode to some row, whose byte either has no entry or whose instruction completes. -/
theorem tickIsFatalExactlyOnBytesWithoutEntry : Obligations.TickIsFatalExactlyOnBytesWithoutEntry := by
  intro s he
  obtain ⟨i, hd⟩ := exists_decodesAt s
  rw [step_of_executes he hd]
  constructor
  · intro hmem
    rw [exec_fetched_of_noEntryByte (noEntryByte_of_mem hd hmem)]
    rfl
  · intro hmem
    obtain ⟨t, ht, -⟩ := everyEntryCompletes i (s.fetched i) (noEntryByte_of_not_mem hd hmem)
    exact ⟨_, congrArg finishTick ht⟩

/-! ### The interrupt check -/

theorem checkPasses_of_pending {s : State} (hime : s.ime = true) (hp : s.pendingEnabled ≠ 0#8) :
    s.checkPasses = true := by
  rw [State.checkPasses, hime, Bool.true_and]
  exact bne_iff_ne.mpr hp

theorem cpuStep_of_vblank {s : State} (hc : s.checkPasses = true) (hb : bitOf s.pendingEnabled vblankBit = true) :
    cpuStep s = .next (dispatch s) := by
  rw [cpuStep, if_pos hc, if_pos hb]

theorem cpuStep_of_unsupported {s : State} (hc : s.checkPasses = true)
    (hb : bitOf s.pendingEnabled vblankBit = false) :
    cpuStep s = .fault (.unsupportedInterrupt s.pc s.pendingEnabled) := by
  rw [cpuStep, if_pos hc, if_neg (Bool.eq_false_iff.mp hb)]
  rfl

theorem State.acknowledge_ime_comm (s : State) (clears b : Bool) :
    { s with ime := b }.acknowledge clears = { s.acknowledge clears with ime := b } := by
  cases clears <;> rfl

/-- The dispatch with its writes of single fields last: neither the acknowledgement nor the push reads IME
(60_exceptions.md R312). -/
theorem dispatch_eq (s : State) :
    dispatch s = { (s.acknowledge dispatchClearsIf).push16 s.pc with
      ime := false, pc := vblankVector, cost := Cost.dispatch } := by
  rw [dispatch, State.acknowledge_ime_comm]
  simp only [State.acknowledge_pc]
  rfl

/-- Settles O50: bit 0 of the pending requests makes the check pass and the dispatch take place. -/
theorem vBlankDispatch : Obligations.VBlankDispatch := by
  intro s hf hime hb
  have hp : s.pendingEnabled ≠ 0#8 := by
    intro h0
    have hb0 : (0#8).getLsbD 0 = true := h0 ▸ hb
    exact absurd hb0 (by decide)
  rw [step_of_no_fatal hf, cpuStep_of_vblank (checkPasses_of_pending hime hp) hb, dispatch_eq]
  rfl

/-- Settles O51: the check passes without bit 0. -/
theorem unsupportedInterruptIsFatal : Obligations.UnsupportedInterruptIsFatal := by
  intro s hf hime hp hb
  rw [step_of_no_fatal hf, cpuStep_of_unsupported (checkPasses_of_pending hime hp) hb]
  rfl

/-! ### What the display timing unit keeps -/

/-- The passes change ACC, memory and the output alone (60_exceptions.md R324). -/
theorem State.scanlines_eq (n : Nat) (s : State) :
    State.scanlines n s = { s with
      acc := (State.scanlines n s).acc, mem := (State.scanlines n s).mem,
      frameReady := (State.scanlines n s).frameReady } := by
  induction n generalizing s with
  | zero => rfl
  | succ n ih =>
    rw [State.scanlines, ih, scanline_eq]

/-- The DTU changes ACC, memory and the output alone (60_exceptions.md R324, R325). -/
theorem dtuTick_eq (cost : Nat) (s : State) :
    dtuTick cost s = { s with
      acc := (dtuTick cost s).acc, mem := (dtuTick cost s).mem, frameReady := (dtuTick cost s).frameReady } := by
  cases h : s.readBit lcdcAddr lcdEnableBit
  · rw [dtuTick_of_lcdOff h]
    rfl
  · rw [dtuTick_of_lcdOn h, State.scanlines_eq]

@[simp] theorem dtuTick_ime (cost : Nat) (s : State) : (dtuTick cost s).ime = s.ime := by rw [dtuTick_eq]

@[simp] theorem dtuTick_imep (cost : Nat) (s : State) : (dtuTick cost s).imep = s.imep := by rw [dtuTick_eq]

@[simp] theorem dtuTick_fatal (cost : Nat) (s : State) : (dtuTick cost s).fatal = s.fatal := by rw [dtuTick_eq]

/-! ### The fatal latch -/

theorem cpuStep_fatal {s u : State} (h : cpuStep s = .next u) : u.fatal = s.fatal := by
  rcases cpuStep_next h with ⟨-, -, rfl⟩ | ⟨-, he⟩
  · simp [dispatch]
  · obtain ⟨i, p, hx⟩ := executeOne_eq_exec s.advanceImeDelay
    obtain ⟨-, -, hfatal, -⟩ := exec_hiddenKept (hx ▸ he)
    simpa using hfatal

/-- Settles O54: a tick that goes on began without FATAL, and neither the CPU step nor the DTU sets it. -/
theorem fatalIsAbsorbing : Obligations.FatalIsAbsorbing := by
  refine ⟨fun s f hf => step_of_fatal hf, fun s t h => ?_⟩
  obtain ⟨hf, u, hu, rfl⟩ := step_next h
  exact ⟨hf, by rw [dtuTick_fatal, cpuStep_fatal hu, hf]⟩

/-! ### The IME delay -/

theorem State.advanceImeDelay_of_idle {s : State} (h : s.imep = .idle) : s.advanceImeDelay = s := by
  rw [State.advanceImeDelay, h]

theorem State.advanceImeDelay_of_two {s : State} {x : Bool} (h : s.imep = .armed x .two) :
    s.advanceImeDelay = { s with imep := .armed x .one } := by
  rw [State.advanceImeDelay, h]

theorem State.advanceImeDelay_of_one {s : State} {x : Bool} (h : s.imep = .armed x .one) :
    s.advanceImeDelay = { s with ime := x, imep := .idle } := by
  rw [State.advanceImeDelay, h]

/-- A tick that executes and goes on: IME is that of the advance, for no instruction writes it, and IMEP is what the
instruction leaves (60_exceptions.md R314, R316). -/
theorem step_executes_next {s t : State} {i : Instr} (he : s.executes) (hd : s.decodesAt i) (h : step s = .next t) :
    ∃ u, exec i (s.fetched i) = .next u ∧ t.ime = s.advanceImeDelay.ime ∧ t.imep = u.imep := by
  obtain ⟨-, u, hu, rfl⟩ := step_next h
  rw [cpuStep_of_executes he hd] at hu
  obtain ⟨hime, -, -, -⟩ := exec_hiddenKept hu
  exact ⟨u, hu, (dtuTick_ime _ u).trans hime, dtuTick_imep _ u⟩

/-- Settles O52: the advance by the value of the slot, and after it the instruction's own arming. -/
theorem imeDelayTransitions : Obligations.ImeDelayTransitions := by
  intro s t i he hd h
  obtain ⟨u, hx, hime, himep⟩ := step_executes_next he hd h
  rw [hime, himep]
  have hkeeps : i ∉ armingInstrs → u.imep = s.advanceImeDelay.imep := onlyEiDiRetiArmTheSlot i (s.fetched i) u hx
  obtain ⟨k, hu⟩ := exec_next hx
  refine ⟨fun hs => ?_, fun x hs => ?_, fun x hs => ?_, fun hi => ?_, ?_, ?_⟩
  · rw [State.advanceImeDelay_of_idle hs]
  · rw [State.advanceImeDelay_of_two hs]
  · rw [State.advanceImeDelay_of_one hs]
  · rw [hkeeps hi]
    refine ⟨fun hs => ?_, fun x hs => ?_, fun x hs => ?_⟩
    · rw [State.advanceImeDelay_of_idle hs, hs]
    · rw [State.advanceImeDelay_of_two hs]
    · rw [State.advanceImeDelay_of_one hs]
  · rintro (rfl | rfl) <;> exact hu ▸ rfl
  · rintro rfl
    exact hu ▸ rfl

/-- Where IME is false the interrupt check does not pass, so a tick that goes on executes. -/
theorem executes_of_ime_false {s t : State} (hime : s.ime = false) (h : step s = .next t) : s.executes :=
  ⟨(step_next h).1, .inl hime⟩

/-- Settles O53: the slot counts from the arming by EI through two ticks to the commit, each tick by the table. -/
theorem enableTakesEffectTwoTicksLater : Obligations.EnableTakesEffectTwoTicksLater := by
  intro s0 s1 s2 s3 i j hime0 hslot hd0 h0 hd1 hi h1 hd2 hj h2
  obtain ⟨idle0, two0, one0, -, arm0, -⟩ :=
    imeDelayTransitions s0 s1 .ei (executes_of_ime_false hime0 h0) hd0 h0
  have himep1 : s1.imep = .armed true .two := arm0 (.inl rfl)
  have hime1 : s1.ime = false := by
    match hs : s0.imep with
    | .idle => exact (idle0 hs).trans hime0
    | .armed x .two => exact (two0 x hs).trans hime0
    | .armed false .one => exact one0 false hs
    | .armed true .one => exact absurd hs hslot
  obtain ⟨-, two1, -, keep1, -⟩ := imeDelayTransitions s1 s2 i (executes_of_ime_false hime1 h1) hd1 h1
  have hime2 : s2.ime = false := (two1 true himep1).trans hime1
  obtain ⟨-, twoToOne, -⟩ := keep1 hi
  have himep2 : s2.imep = .armed true .one := twoToOne true himep1
  obtain ⟨-, -, one2, keep2, -⟩ := imeDelayTransitions s2 s3 j (executes_of_ime_false hime2 h2) hd2 h2
  obtain ⟨-, -, oneToIdle⟩ := keep2 hj
  exact ⟨hime1, hime2, one2 true himep2, oneToIdle true himep2⟩

/-! ### Scanlines -/

theorem memKeptBut_trans {changed : List Word} {s t u : State} (h : memKeptBut changed s t)
    (h' : memKeptBut changed t u) : memKeptBut changed s u := fun x hx => (h' x hx).trans (h x hx)

theorem State.scanlines_memKeptBut (n : Nat) (s : State) : memKeptBut [lyAddr, ifAddr] s (State.scanlines n s) := by
  induction n generalizing s with
  | zero => exact fun _ _ => rfl
  | succ n ih => exact memKeptBut_trans (scanline_memKeptBut s) (ih s.scanline)

/-- A scanline as a number after a pass (60_exceptions.md R327). -/
theorem scanline_ly_toNat {s : State} (h : s.memCanonical) :
    (s.scanline.readByte lyAddr).toNat = ((s.readByte lyAddr).toNat + 1) % 154 := by
  rw [scanline_ly h, nextLine_toNat]

/-- Every pass adds 1 to LY modulo 154 (60_exceptions.md R327). -/
theorem State.scanlines_ly {n : Nat} {s : State} (h : s.memCanonical) (hn : 0 < n) :
    ((State.scanlines n s).readByte lyAddr).toNat = ((s.readByte lyAddr).toNat + n) % 154 := by
  induction n generalizing s with
  | zero => cases hn
  | succ n ih =>
    rw [State.scanlines]
    cases n with
    | zero => exact scanline_ly_toNat h
    | succ m =>
      rw [ih (scanline_memCanonical h) (Nat.succ_pos m), scanline_ly_toNat h]
      omega

/-- Line 144 is stored in one of `n` passes that begin at the line `ly` (60_exceptions.md R328). -/
def reachesVblank (ly n : Nat) : Prop := ∃ k, 0 < k ∧ k ≤ n ∧ (ly + k) % 154 = 144

theorem not_reachesVblank_zero (ly : Nat) : ¬ reachesVblank ly 0 := by
  rintro ⟨k, hk, hk0, -⟩
  omega

/-- Line 144 is stored in the first pass or in one of the others. -/
theorem reachesVblank_succ (ly n : Nat) :
    reachesVblank ly (n + 1) ↔ (ly + 1) % 154 = 144 ∨ reachesVblank ((ly + 1) % 154) n := by
  constructor
  · rintro ⟨k, hk, hkn, hline⟩
    by_cases h1 : k = 1
    · exact .inl (h1 ▸ hline)
    · exact .inr ⟨k - 1, by omega, by omega, by omega⟩
  · rintro (hline | ⟨k, hk, hkn, hline⟩)
    · exact ⟨1, by omega, by omega, hline⟩
    · exact ⟨k + 1, by omega, by omega, by omega⟩

/-- The passes of the scanline loop leave no request but for the one of line 144 (60_exceptions.md R328). -/
theorem State.scanlines_no_request {n : Nat} {s : State} (h : s.memCanonical)
    (hn : ¬ reachesVblank (s.readByte lyAddr).toNat n) :
    (State.scanlines n s).readByte ifAddr = s.readByte ifAddr ∧ (State.scanlines n s).frameReady = s.frameReady := by
  induction n generalizing s with
  | zero => exact ⟨rfl, rfl⟩
  | succ n ih =>
    rw [reachesVblank_succ, not_or, ← scanline_ly_toNat h] at hn
    obtain ⟨hfirst, hrest⟩ := hn
    obtain ⟨hif, hready⟩ := ih (scanline_memCanonical h) hrest
    rcases scanline_request h with ⟨hv, -, -⟩ | ⟨-, hif1, hready1⟩
    · rw [scanline_ly_toNat h] at hfirst
      exact absurd ((nextLine_eq_vblank _).mp hv) hfirst
    · exact ⟨hif.trans hif1, hready.trans hready1⟩

/-- A pass that stores line 144 sets the request bit and the output, and no pass clears them (60_exceptions.md R328). -/
theorem State.scanlines_request {n : Nat} {s : State} (h : s.memCanonical)
    (hn : reachesVblank (s.readByte lyAddr).toNat n) :
    (State.scanlines n s).readByte ifAddr = s.readByte ifAddr ||| 0x01#8 ∧
      (State.scanlines n s).frameReady = true := by
  induction n generalizing s with
  | zero => exact absurd hn (not_reachesVblank_zero _)
  | succ n ih =>
    have hc := scanline_memCanonical h
    rw [reachesVblank_succ, ← nextLine_eq_vblank, ← scanline_ly_toNat h] at hn
    rw [State.scanlines]
    by_cases hrest : reachesVblank (s.scanline.readByte lyAddr).toNat n
    · obtain ⟨hif, hready⟩ := ih hc hrest
      refine ⟨hif.trans ?_, hready⟩
      rcases scanline_request h with ⟨-, hif1, -⟩ | ⟨-, hif1, -⟩
      · rw [hif1, BitVec.or_assoc, BitVec.or_self]
      · rw [hif1]
    · obtain ⟨hif, hready⟩ := State.scanlines_no_request hc hrest
      rcases scanline_request h with ⟨-, hif1, hready1⟩ | ⟨hv, -, -⟩
      · exact ⟨hif.trans hif1, hready.trans hready1⟩
      · exact absurd (hn.resolve_right hrest) hv

/-- Settles O57: the one write is LY's. -/
theorem dtuWithLcdOffForcesLyToZero : Obligations.DtuWithLcdOffForcesLyToZero := by
  intro s cost hm hoff
  rw [dtuTick_of_lcdOff hoff]
  exact ⟨readByte_writeByte_self (s := { s with frameReady := false }) hm _ _,
    writeByte_memKeptBut { s with frameReady := false } _ _, rfl⟩

/-- Settles O58: the tick is `n` passes of the scanline loop on the state with ACC grown. -/
theorem dtuCountsScanlinesAndRaisesVBlank : Obligations.DtuCountsScanlinesAndRaisesVBlank := by
  rintro s cost n hm hon rfl
  have hacc := dtuTick_acc_of_lcdOn hon cost
  have heq := dtuTick_eq cost s
  rw [dtuTick_of_lcdOn hon] at hacc heq ⊢
  have hm1 : { s with frameReady := false, acc := s.acc + dotsPerMCycle * cost }.memCanonical := hm
  refine ⟨hacc, fun hn => ?_, State.scanlines_ly hm1, State.scanlines_request hm1, State.scanlines_no_request hm1,
    State.scanlines_memKeptBut _ _, heq⟩
  have hpasses : (s.acc + dotsPerMCycle * cost) / linePeriod = 0 := hn
  rw [hpasses]
  exact ⟨rfl, rfl⟩

end Sys2Proof.Machine
end

section
/-! SUPPORT. The family of 70_reset_and_hazards.md: the image in memory, and the cartridge check. -/

namespace Sys2Proof.Machine

/-! ### The image in memory -/

/-- An address of the image reads the image's byte, and any other address as before (70_reset_and_hazards.md R350). -/
theorem Memory.get_load {m : Memory} (h : m.wf = true) {vs : List Byte} {a : Nat} (ha : a + vs.length ≤ 65536)
    (x : Nat) :
    (m.load a vs).get x = if x < a then m.get x else (vs[x - a]?).getD (m.get x) := by
  induction vs generalizing m a with
  | nil => simp [Memory.load]
  | cons v vs ih =>
    rw [List.length_cons] at ha
    rw [Memory.load, ih (Memory.set_wf h (by omega) v) (by omega)]
    rcases Nat.lt_trichotomy x a with hlt | rfl | hgt
    · rw [if_pos hlt, if_pos (by omega), Memory.get_set_ne m v (by omega)]
    · simp [Memory.get_set_self h]
    · have hx : x - a = x - (a + 1) + 1 := by omega
      rw [if_neg (by omega), if_neg (by omega), Memory.get_set_ne m v (by omega), hx, List.getElem?_cons_succ]

/-- The state that boot places the image in, before the cartridge check (70_reset_and_hazards.md R350). -/
def bootImage (cart : List Byte) : State := { State.reset with mem := State.reset.mem.load 0 cart }

theorem boot_of_fits {cart : List Byte} (h : cart.length ≤ 65536) :
    boot cart = .next (bootImage cart).checkCartridge := if_neg (Nat.not_lt.mpr h)

theorem bootImage_memCanonical {cart : List Byte} (h : cart.length ≤ 65536) : (bootImage cart).memCanonical :=
  Memory.load_wf rfl cart (by rwa [Nat.zero_add])

theorem bootImage_readByte {cart : List Byte} (h : cart.length ≤ 65536) (x : Word) :
    (bootImage cart).readByte x = (cart[x.toNat]?).getD (resetByte x.toNat) :=
  Memory.get_load rfl (by rwa [Nat.zero_add]) x.toNat

/-- The cartridge type byte is zero-filled where the image is short (70_reset_and_hazards.md R350). -/
theorem bootImage_cartType {cart : List Byte} (h : cart.length ≤ 65536) :
    (bootImage cart).readByte cartTypeAddr = (cart[0x0147]?).getD 0#8 := bootImage_readByte h cartTypeAddr

/-! ### The cartridge check -/

theorem State.checkCartridge_eq (s : State) : s.checkCartridge = { s with fatal := s.checkCartridge.fatal } := by
  unfold State.checkCartridge
  split <;> rfl

theorem State.checkCartridge_of_type_zero {s : State} (h : s.readByte cartTypeAddr = 0x00#8) : s.checkCartridge = s :=
  if_pos h

theorem State.checkCartridge_fatal {s : State} (h : s.readByte cartTypeAddr ≠ 0x00#8) :
    s.checkCartridge.fatal = some (.unsupportedCartridge cartTypeAddr (s.readByte cartTypeAddr)) := by
  rw [State.checkCartridge, if_neg h]

@[simp] theorem State.checkCartridge_mem (s : State) : s.checkCartridge.mem = s.mem := by rw [State.checkCartridge_eq]

/-- Settles O59: the image is loaded over the reset contents, and the check writes the latch alone. -/
theorem bootLoadsAndChecksTheCartridge : Obligations.BootLoadsAndChecksTheCartridge := by
  refine ⟨fun cart h => if_pos h, fun cart h => ⟨_, boot_of_fits h, fun x => ?_, fun htype => ?_, fun htype => ?_,
    ?_, ?_⟩, ?_⟩
  · rw [readByte_congr (State.checkCartridge_mem _), bootImage_readByte h]
  · rw [State.checkCartridge_of_type_zero (by rw [bootImage_cartType h, htype])]
    rfl
  · rw [← bootImage_cartType h] at htype ⊢
    exact step_of_fatal (State.checkCartridge_fatal htype)
  · rw [State.memCanonical, State.checkCartridge_mem]
    exact bootImage_memCanonical h
  · rw [State.checkCartridge_eq]
    rfl
  · rw [boot_of_fits (Nat.zero_le _), State.checkCartridge_of_type_zero (bootImage_cartType (Nat.zero_le _))]
    rfl

end Sys2Proof.Machine
end
